-- ==== Sys2Proof/Word.lean ====
section
/-! DEFINITION. The word of the CORE (00_scope.md R7, R9): 32 bits, bit 31 the most significant. -/

namespace Sys2Proof

/-- A raw bit pattern or a binary32 word: `WORD_W` = 32 bits (00_scope.md R7). -/
abbrev Word := BitVec 32

end Sys2Proof
end

