-- ==== Sys2Proof/Config.lean ====
section
/-! DEFINITION. What an implementation fixes and what the spec leaves open (00_scope.md R8): the
hardwired constants, and the open parameters and free values as constants without a body. -/

namespace Sys2Proof

/-- A NaN encoding by construction: exponent field 255 and a fraction that is not 0 (00_scope.md
R13). `fracLess1` is the fraction less 1. -/
structure NanWord where
  sign : BitVec 1
  fracLess1 : Fin 8388607
deriving DecidableEq, Repr, Inhabited

/-- How the host lays a word out in its own byte memory (00_scope.md R8, `HOST_BYTE_ORDER`). -/
inductive ByteOrder where
  | little
  | big
deriving DecidableEq, Repr, Inhabited

/-- `BIAS` (00_scope.md R7): hardwired, no register (10_state.md R31). -/
def Config.bias : Nat := 127

/-- `RADIX` (00_scope.md R7): hardwired, no register (10_state.md R31). -/
def Config.radix : Nat := 2

/-- `ACC_ITERS` (00_scope.md R7): the iterations of the mantissa accumulator. -/
def Config.accIters : Nat := 23

/-- Free value (log 3): the latency of the n-th free draw of a stream, for an OP, less 1. Every instance
of a platform draws from a stream of its own, here and in the other free values (log 20). -/
opaque Config.latencyLess1 : BitVec 2 → Nat → Nat → Nat

/-- `LAT_op` (00_scope.md R8): at least 1, and not the same from one request to the next
(70_reset_and_hazards.md R168), hence the stream and the counter of free values as arguments. -/
def Config.latency (op : BitVec 2) (stream n : Nat) : Nat := Config.latencyLess1 op stream n + 1

/-- Free value (log 4): `NAN_RESULT`, a function of the two operand words and of nothing else, whose
result is always a NaN encoding (42_reconstruct.md R101). -/
opaque Config.nanResult : Word → Word → NanWord

/-- `HOST_BYTE_ORDER` (00_scope.md R8, log 19): never seen by the CORE (20_memory.md R41). -/
opaque Config.hostByteOrder : ByteOrder

/-- `N_INSTANCES` less 1 (00_scope.md R8, log 20). -/
opaque Config.instancesLess1 : Nat

/-- `N_INSTANCES` (00_scope.md R8): at least 1. -/
def Config.instances : Nat := Config.instancesLess1 + 1

/-- Free value (log 7): the bits of a register that reset leaves unspecified (10_state.md R34). -/
opaque Config.unspecified (w : Nat) : Nat → Nat → BitVec w

/-- Free value (log 2): does the host move before the next clock edge, where both may move? -/
opaque Config.hostFirst : Nat → Nat → Bool

end Sys2Proof
end

