-- ==== Sys2Proof/Machine/Binary32.lean ====
section
/-! DEFINITION. The binary32 primitives (00_scope.md R11 to R15) and the multiplier
(42_reconstruct.md R100, R101), all on bits, naturals and integers. The specials' meaning and the
rounding algorithm are the spec's from general knowledge (log 18). -/

namespace Sys2Proof.Machine

/-- Sign field `w[31]` (00_scope.md R11). -/
def signField (w : Word) : BitVec 1 := w.extractLsb' 31 1

/-- Biased exponent field `w[30:23]` (00_scope.md R11). -/
def expField (w : Word) : BitVec 8 := w.extractLsb' 23 8

/-- Fraction field `w[22:0]` (00_scope.md R11). -/
def fracField (w : Word) : BitVec 23 := w.extractLsb' 0 23

/-- The word with the three given fields: `s << 31 | e << 23 | f` (00_scope.md R11). -/
def packWord (s : BitVec 1) (e : BitVec 8) (f : BitVec 23) : Word :=
  s.zeroExtend 32 <<< 31 ||| e.zeroExtend 32 <<< 23 ||| f.zeroExtend 32

/-- A NaN (00_scope.md R13). -/
def isNaN (w : Word) : Bool := expField w == 255#8 && fracField w != 0#23

/-- An infinity (00_scope.md R13). -/
def isInf (w : Word) : Bool := expField w == 255#8 && fracField w == 0#23

/-- A zero of either sign (00_scope.md R13). -/
def isZero (w : Word) : Bool := expField w == 0#8 && fracField w == 0#23

/-- A subnormal (00_scope.md R13). -/
def isSub (w : Word) : Bool := expField w == 0#8 && fracField w != 0#23

/-- A normal number: 1 ≤ e ≤ 254 (00_scope.md R13). -/
def isNormal (w : Word) : Bool := 1 ≤ (expField w).toNat && (expField w).toNat ≤ 254

/-- Integer significand and exponent of a finite word: its magnitude is N × 2^K (00_scope.md R13). -/
def sig32 (w : Word) : Nat × Int :=
  if expField w = 0#8 then ((fracField w).toNat, -149)
  else (2 ^ 23 + (fracField w).toNat, (expField w).toNat - 150)

/-- What a binary32 word denotes (00_scope.md R12). -/
inductive Value where
  | nan
  | infinity (negative : Bool)
  | real (q : ℚ)
deriving DecidableEq, Repr

/-- `(-1)^s` as a rational. -/
def signFactor (s : BitVec 1) : ℚ := if s = 0#1 then 1 else -1

/-- Numeric value of a binary32 word (00_scope.md R12). -/
def val32 (w : Word) : Value :=
  if expField w = 255#8 then
    if fracField w = 0#23 then .infinity (signField w = 1#1) else .nan
  else .real (signFactor (signField w) * (sig32 w).1 * (2 : ℚ) ^ (sig32 w).2)

/-- `N >> shift` rounded to nearest, ties to even, for `shift` > 0 (00_scope.md R14). -/
def shiftRoundEven (n shift : Nat) : Nat :=
  let r := n >>> shift
  let rem := n % 2 ^ shift
  let half := 2 ^ (shift - 1)
  if half < rem ∨ (rem = half ∧ r % 2 = 1) then r + 1 else r

/-- How many low bits of N rounding drops (00_scope.md R14): down to 24 significant bits where the
exact value's exponent is at least -126, else down to units of 2^-149. -/
def roundShift (n : Nat) (k : Int) : Int :=
  if -126 ≤ (Nat.log2 n : Int) + k then (Nat.log2 n : Int) - 23 else -149 - k

/-- The rounded significand, before a carry out of it is taken back (00_scope.md R14). -/
def roundedSig (n : Nat) (shift : Int) : Nat :=
  if shift ≤ 0 then n <<< (-shift).toNat else shiftRoundEven n shift.toNat

/-- The word of (-1)^s × r × 2^q for a significand r ≤ 2^24 (00_scope.md R14, its last five lines). -/
def encodeRounded (s : BitVec 1) (r : Nat) (q : Int) : Word :=
  let r' := if r = 2 ^ 24 then 2 ^ 23 else r
  let q' := if r = 2 ^ 24 then q + 1 else q
  if q' = -149 ∧ r' < 2 ^ 23 then packWord s 0#8 (BitVec.ofNat 23 r')
  else if 255 ≤ q' + 150 then packWord s 255#8 0#23
  else packWord s (BitVec.ofNat 8 (q' + 150).toNat) (BitVec.ofNat 23 (r' - 2 ^ 23))

/-- Rounding of (-1)^s × N × 2^K to binary32: to nearest, ties to even, overflow to infinity,
subnormals kept (00_scope.md R14). -/
def round32 (s : BitVec 1) (n : Nat) (k : Int) : Word :=
  if n = 0 then packWord s 0#8 0#23
  else encodeRounded s (roundedSig n (roundShift n k)) (k + roundShift n k)

/-- 2^k as binary32 (00_scope.md R15): `RADIX` to the power k, rounded once. -/
def pow2 (k : Int) : Word := round32 0#1 1 k

/-- The binary32 word of a NaN encoding (00_scope.md R11, R13). -/
def nanToWord (n : NanWord) : Word := packWord n.sign 255#8 (BitVec.ofNat 23 (n.fracLess1.val + 1))

/-- `NAN_RESULT(a, b)`: some NaN word that depends on a and b alone (42_reconstruct.md R101; free
value, log 4). -/
def nanResult (a b : Word) : Word := nanToWord (Config.nanResult a b)

/-- The sign of a product: exclusive or of the signs (42_reconstruct.md R100). -/
def productSign (a b : Word) : BitVec 1 := signField a ^^^ signField b

/-- The binary32 product (42_reconstruct.md R100): the specials first, else one rounding of the exact
product. No flag is recorded anywhere (R106). -/
def fmul32 (a b : Word) : Word :=
  if isNaN a || isNaN b then nanResult a b
  else if isInf a || isInf b then
    if isZero a || isZero b then nanResult a b else packWord (productSign a b) 255#8 0#23
  else if isZero a || isZero b then packWord (productSign a b) 0#8 0#23
  else round32 (productSign a b) ((sig32 a).1 * (sig32 b).1) ((sig32 a).2 + (sig32 b).2)

end Sys2Proof.Machine
end

