-- ==== Sys2Proof/Syntax.lean ====
section
/-! DEFINITION. The requests of the CORE (30_encoding.md R50, R51): one constructor per row of the
opcode table, each with the three operands A, B and C that every request carries. -/

namespace Sys2Proof

/-- One request. EXTRACT, DECODE and ROUNDTRIP ignore B and C (30_encoding.md R52, R53); they carry
them all the same, because ACCEPT latches them and every bundle is a request of its own (R54). -/
inductive Instr where
  /-- OP 0b00: `a` is the raw 32-bit pattern. -/
  | extract (a b c : Word)
  /-- OP 0b01: `a` packs the raw triple, sign in bit 31, exponent in 30:23, mantissa in 22:0. -/
  | decode (a b c : Word)
  /-- OP 0b10: signedUnit, exponentValue, mantissaValue. -/
  | reconstruct (a b c : Word)
  /-- OP 0b11: `a` is the raw 32-bit pattern. -/
  | roundtrip (a b c : Word)
deriving DecidableEq, Repr

end Sys2Proof
end

