-- ==== Sys2Proof/HostSyntax.lean ====
section
/-! DEFINITION. What the HOST writes and does: the names of the registers it may read
(10_state.md R24 to R27), the steps it takes (70_reset_and_hazards.md R170) and the source lines of
the spec's request notation (30_encoding.md R56, R57). -/

namespace Sys2Proof

/-- The registers on the CORE's output ports (10_state.md R21). -/
inductive Reg where
  | status
  | resSign
  | resExp
  | resMant
  | resSunit
  | resEval
  | resMval
  | resValue
deriving DecidableEq, Repr

/-- What the host does with `req_valid` at the ACCEPT of the request on the port: it must keep it 1
until then and may drop it or hold it after (70_reset_and_hazards.md R164, R165; log 13). -/
inductive Hold where
  /-- The host drops `req_valid` at the ACCEPT. -/
  | untilAccept
  /-- The host goes on holding `req_valid` at the ACCEPT. -/
  | beyond
  /-- The request on the port has been accepted and is still held; the CORE accepts it again. -/
  | accepted
deriving DecidableEq, Repr

/-- One step of the HOST, or of the platform on the host's order (70_reset_and_hazards.md R170), some of
them on the level of the ports, which the host may drive at any time (60_exceptions.md R147,
70_reset_and_hazards.md R164, R165; log 21). -/
inductive HostStep where
  /-- R170's issue: the request is presented and accepted at one edge. -/
  | issue (i : Instr)
  /-- Drive the request on the port with `req_valid` 1, and keep it 1 at the ACCEPT or drop it there; a
  waiting request is changed (R164). -/
  | present (i : Instr) (keep : Bool)
  /-- Drive `req_op`, `req_a`, `req_b` and `req_c` and leave `req_valid` as it is. -/
  | drive (i : Instr)
  /-- Hold the request on the port until it is accepted (30_encoding.md R56). -/
  | hold
  /-- Drop `req_valid` of a request that has been accepted (R165). -/
  | release
  /-- Hold the host until `STATUS.BUSY` is 0. -/
  | wait
  | read (r : Reg)
  | check
  | reset
  /-- Present the request that ends the expansion of DECODE.RAW (30_encoding.md R57), made of the values
  just read. -/
  | presentDecodeRead
  /-- Present the request that ends the expansion of RECONSTRUCT.DEC (30_encoding.md R57), made of the
  values just read. -/
  | presentReconstructRead
deriving DecidableEq, Repr

/-- One source line (30_encoding.md R56, R57), its operands as they were written. -/
inductive Line where
  | extract (a : Nat)
  | decode (a : Nat)
  | reconstruct (a b c : Nat)
  | roundtrip (a : Nat)
  | reset
  | wait
  | read (r : Reg)
  | check
  | decodeF (s e m : Nat)
  | decodeRaw
  | reconstructDec
deriving DecidableEq, Repr

end Sys2Proof
end

