-- ==== Sys2Proof/Machine/State.lean ====
section
/-! DEFINITION. The state of the CORE, of its input ports and of the HOST as plain data, the reasons
a run can stop, and the state after reset (10_state.md, 70_reset_and_hazards.md R172). -/

namespace Sys2Proof.Machine

/-- The model's fault reasons, exactly two (60_exceptions.md R143). Both belong to the host: the CORE
raises nothing (R140). Each is recorded in `State.faults` when it is raised; `step` answers it as its
outcome once the run has nothing left to do (log 10), which is safe: the machine goes no further. -/
inductive Fault where
  /-- READ_NO_VALUE(register), raised by a host READ or CHECK of a register of a group whose valid
  bit is 0 (60_exceptions.md R142). Safe: the hardware drives some bits, the model none. -/
  | readNoValue (r : Reg)
  /-- HOST_ROUNDTRIP_MISMATCH(A, RES_VALUE), raised by the host's CHECK (60_exceptions.md R144).
  Safe: it is the caller's own assertion. -/
  | hostRoundtripMismatch (a v : Word)
deriving DecidableEq, Repr

/-- The model's refusals. There is no refusal reason (60_exceptions.md R143): every request has a
meaning (30_encoding.md R54). -/
inductive Refusal where
  /-- Raised by no arm of `exec` and by no step; kept for an instruction without a meaning. Safe. -/
  | notModelled (mnemonic : String)
deriving DecidableEq, Repr

/-- RAW result group: the raw field triple (10_state.md R25). Written together. -/
structure RawGroup where
  sign : BitVec 1
  exp : BitVec 8
  mant : BitVec 23
deriving DecidableEq, Repr

/-- DEC result group: the decoded triple, three binary32 words (10_state.md R26). Written together. -/
structure DecGroup where
  sunit : Word
  eval : Word
  mval : Word
deriving DecidableEq, Repr

/-- One host READ: the register and the value it returned, zero-extended to 32 bits; none where the
READ raised READ_NO_VALUE (60_exceptions.md R142). -/
structure ReadResult where
  reg : Reg
  value : Option Word
deriving DecidableEq, Repr

/-- Whose move is next where both may move (log 2). -/
inductive Turn where
  | edge
  | host
deriving DecidableEq, Repr

/-- The state. The first fields are the CORE's registers (10_state.md R23 to R27, R33), then come the
input ports (R21), the HOST (R20, 70_reset_and_hazards.md R170) and the model's own three fields. -/
structure State where
  /-- STATUS (R24): bit 0 BUSY, bit 1 RAW_V, bit 2 DEC_V, bit 3 VAL_V. -/
  status : BitVec 4
  /-- RAW group (R25); none is the spec's NOVAL (R28). -/
  raw : Option RawGroup
  /-- DEC group (R26); none is NOVAL. -/
  dec : Option DecGroup
  /-- VAL group: RES_VALUE (R27); none is NOVAL. -/
  val : Option Word
  /-- The request latch (R23). -/
  opr : BitVec 2
  opa : Word
  opb : Word
  opc : Word
  /-- Hidden state (R33). -/
  macc : BitVec 24
  iter : BitVec 5
  uexp : BitVec 9
  /-- Edges left until the COMPLETE of the operation in flight (R30); 0 when none is. -/
  left : Nat
  /-- The level of `rst` at each coming edge, next first; 0 beyond the list (R21). -/
  rstPlan : List Bool
  /-- The request port as the host drives it (R21). -/
  reqValid : Bool
  reqOp : BitVec 2
  reqA : Word
  reqB : Word
  reqC : Word
  /-- What the host does with `req_valid` at the coming ACCEPT (log 13). -/
  reqHold : Hold
  /-- The host's steps still to take, next first (70_reset_and_hazards.md R170). -/
  script : List HostStep
  /-- The request the host had presented at the last ACCEPT (60_exceptions.md R144). -/
  presented : Option Instr
  /-- The A the host had presented to the last ROUNDTRIP that completed; none before the first
  (60_exceptions.md R144, 70_reset_and_hazards.md R170; log 12). -/
  roundtripA : Option Word
  /-- What the host has read, newest first (70_reset_and_hazards.md R171). -/
  reads : List ReadResult
  /-- The faults recorded, newest first (60_exceptions.md R143). -/
  faults : List Fault
  /-- The model's own: how many free values have been drawn (log 2, log 3, log 7). -/
  fresh : Nat
  /-- The model's own: the stream the free values are drawn from, one per instance (log 20). -/
  stream : Nat
  /-- The model's own: whose move is next (log 2). -/
  turn : Turn
deriving DecidableEq, Repr

/-- The state after reset (10_state.md R34, 70_reset_and_hazards.md R172): STATUS 0b0000, every group
NOVAL, nothing in flight, no fault. The latch and the hidden state, which R34 leaves unspecified, are
0 (log 5, log 6); the ports are idle and the host has no steps (log 14). -/
def State.reset : State where
  status := 0#4
  raw := none
  dec := none
  val := none
  opr := 0#2
  opa := 0#32
  opb := 0#32
  opc := 0#32
  macc := 0#24
  iter := 0#5
  uexp := 0#9
  left := 0
  rstPlan := []
  reqValid := false
  reqOp := 0#2
  reqA := 0#32
  reqB := 0#32
  reqC := 0#32
  reqHold := .untilAccept
  script := []
  presented := none
  roundtripA := none
  reads := []
  faults := []
  fresh := 0
  stream := 0
  turn := .edge

end Sys2Proof.Machine
end

