-- ==== Sys2Proof/Machine/Flags.lean ====
section
/-! DEFINITION. The STATUS register's bits (10_state.md R24). The host cannot write it; only ACCEPT,
COMPLETE and reset change it. -/

namespace Sys2Proof.Machine

/-- STATUS bit 0: a request has been accepted and has not completed. -/
def State.busy (s : State) : Bool := s.status.getLsbD 0

/-- STATUS bit 1: the RAW group holds the result of the last completed request. -/
def State.rawV (s : State) : Bool := s.status.getLsbD 1

/-- STATUS bit 2: the DEC group holds the result of the last completed request. -/
def State.decV (s : State) : Bool := s.status.getLsbD 2

/-- STATUS bit 3: the VAL group holds the result of the last completed request. -/
def State.valV (s : State) : Bool := s.status.getLsbD 3

/-- The `req_ready` port: equal to `!STATUS.BUSY` (10_state.md R21). -/
def State.reqReady (s : State) : Bool := !s.busy

/-- STATUS after ACCEPT: BUSY set, every valid bit cleared (10_state.md R29). -/
def statusAccepted : BitVec 4 := 0b0001#4

/-- STATUS after reset (10_state.md R34). -/
def statusReset : BitVec 4 := 0b0000#4

/-- `STATUS.RAW_V <- 1`. -/
def setRawV (st : BitVec 4) : BitVec 4 := st ||| 0b0010#4

/-- `STATUS.DEC_V <- 1`. -/
def setDecV (st : BitVec 4) : BitVec 4 := st ||| 0b0100#4

/-- `STATUS.VAL_V <- 1`. -/
def setValV (st : BitVec 4) : BitVec 4 := st ||| 0b1000#4

/-- `STATUS.BUSY <- 0`. -/
def clearBusy (st : BitVec 4) : BitVec 4 := st &&& 0b1110#4

end Sys2Proof.Machine
end

