-- ==== Sys2Proof/WellFormed.lean ====
section
/-! DEFINITION. Which terms are well formed. Every request is (30_encoding.md R54); a source line is
when its operands fit (30_encoding.md R56, R57). -/

namespace Sys2Proof

/-- Every one of the 2^98 request bundles is a valid request (30_encoding.md R54): the operands'
widths are in their types, and no encoding is reserved or illegal. -/
def Instr.wellFormed : Instr → Bool
  | .extract _ _ _ => true
  | .decode _ _ _ => true
  | .reconstruct _ _ _ => true
  | .roundtrip _ _ _ => true

/-- An operand of a source line is a 32-bit word (30_encoding.md R56). -/
def fitsWord (n : Nat) : Bool := n < 2 ^ 32

/-- The assembler refuses DECODE.F unless 0 ≤ s ≤ 1, 0 ≤ e ≤ 255 and 0 ≤ m ≤ 0x7FFFFF
(30_encoding.md R57). -/
def fitsTriple (s e m : Nat) : Bool := s ≤ 1 && e ≤ 255 && m ≤ 0x7FFFFF

/-- A source line whose operands fit (30_encoding.md R56, R57). -/
def Line.wellFormed : Line → Bool
  | .extract a => fitsWord a
  | .decode a => fitsWord a
  | .reconstruct a b c => fitsWord a && fitsWord b && fitsWord c
  | .roundtrip a => fitsWord a
  | .reset => true
  | .wait => true
  | .read _ => true
  | .check => true
  | .decodeF s e m => fitsTriple s e m
  | .decodeRaw => true
  | .reconstructDec => true

end Sys2Proof
end

