-- ==== Sys2Proof/Decode.lean ====
section
/-! DEFINITION. The request bundle of 98 bits (30_encoding.md R50): its decoder, which is total and
never refuses (R54), its encoder, and the printed form of a request (R58). -/

namespace Sys2Proof

/-- The request on the four fields OP, A, B, C (30_encoding.md R51). -/
def decodeFields (op : BitVec 2) (a b c : Word) : Instr :=
  match op.toNat with
  | 0 => .extract a b c
  | 1 => .decode a b c
  | 2 => .reconstruct a b c
  | _ => .roundtrip a b c

/-- The OP field of a request (30_encoding.md R51). -/
def Instr.op : Instr → BitVec 2
  | .extract _ _ _ => 0b00#2
  | .decode _ _ _ => 0b01#2
  | .reconstruct _ _ _ => 0b10#2
  | .roundtrip _ _ _ => 0b11#2

/-- Operand A of a request. -/
def Instr.a : Instr → Word
  | .extract a _ _ => a
  | .decode a _ _ => a
  | .reconstruct a _ _ => a
  | .roundtrip a _ _ => a

/-- Operand B of a request. -/
def Instr.b : Instr → Word
  | .extract _ b _ => b
  | .decode _ b _ => b
  | .reconstruct _ b _ => b
  | .roundtrip _ b _ => b

/-- Operand C of a request. -/
def Instr.c : Instr → Word
  | .extract _ _ c => c
  | .decode _ _ c => c
  | .reconstruct _ _ c => c
  | .roundtrip _ _ c => c

/-- Bundle bits 97:96 (30_encoding.md R50). -/
def bundleOp (w : BitVec 98) : BitVec 2 := w.extractLsb' 96 2

/-- Bundle bits 95:64. -/
def bundleA (w : BitVec 98) : Word := w.extractLsb' 64 32

/-- Bundle bits 63:32. -/
def bundleB (w : BitVec 98) : Word := w.extractLsb' 32 32

/-- Bundle bits 31:0. -/
def bundleC (w : BitVec 98) : Word := w.extractLsb' 0 32

/-- The request a bundle stands for: every bundle is one (30_encoding.md R54). -/
def decode (w : BitVec 98) : Instr :=
  decodeFields (bundleOp w) (bundleA w) (bundleB w) (bundleC w)

/-- The bundle OP, A, B, C with OP in the upper bits (30_encoding.md R50). -/
def encode (i : Instr) : BitVec 98 := i.op ++ i.a ++ i.b ++ i.c

/-- The decoder on a number whose bits are the bundle's, bit 0 the bundle's bit 0, read up to
`nbits` with zeros above. A number of more than 98 bits is no request bundle (30_encoding.md R50). -/
def decodeTableWord (nbits w : Nat) : Option Instr :=
  if w % 2 ^ nbits < 2 ^ 98 then some (decode (BitVec.ofNat 98 (w % 2 ^ nbits))) else none

/-- One hexadecimal digit, capital letters. -/
def hexDigit (n : Nat) : Char :=
  ['0', '1', '2', '3', '4', '5', '6', '7', '8', '9', 'A', 'B', 'C', 'D', 'E', 'F'].getD n '0'

/-- The lowest `k` hexadecimal digits of `n`, the most significant first. -/
def hexDigits : Nat → Nat → List Char
  | 0, _ => []
  | k + 1, n => hexDigits k (n / 16) ++ [hexDigit (n % 16)]

/-- The printed form `OP:A:B:C` of a request: one digit and three times eight (30_encoding.md R58). -/
def printed (i : Instr) : String :=
  String.ofList (hexDigits 1 i.op.toNat ++ ':' :: hexDigits 8 i.a.toNat ++ ':' :: hexDigits 8 i.b.toNat
    ++ ':' :: hexDigits 8 i.c.toNat)

end Sys2Proof
end

