-- ==== Sys2Proof/Machine/Operands.lean ====
section
/-! DEFINITION. The request latch and the request port read as requests (10_state.md R23, R29;
30_encoding.md R52): every operand is the 32-bit word on its port, not extended, scaled or shifted. -/

namespace Sys2Proof.Machine

/-- The request in the latch, which COMPLETE reads (10_state.md R30). -/
def State.latched (s : State) : Instr := decodeFields s.opr s.opa s.opb s.opc

/-- The request on the port, which ACCEPT reads (10_state.md R29). -/
def State.offered (s : State) : Instr := decodeFields s.reqOp s.reqA s.reqB s.reqC

/-- The word that packs a raw triple, fields widened to 32 bits before shifting (30_encoding.md R52,
40_extract.md R72). -/
def packTriple (g : RawGroup) : Word :=
  g.sign.zeroExtend 32 <<< 31 ||| g.exp.zeroExtend 32 <<< 23 ||| g.mant.zeroExtend 32

end Sys2Proof.Machine
end

