-- ==== Sys2Proof/Machine/Ops.lean ====
section
/-! DEFINITION. The named operations over the CORE's registers: ACCEPT and COMPLETE (10_state.md R29,
R30), the writes of the three result groups (R25 to R27), reset (70_reset_and_hazards.md R160), and
reading a register (60_exceptions.md R142). The CORE takes no exception and returns from none
(60_exceptions.md R140, R141), so there is no such operation. -/

namespace Sys2Proof.Machine

/-- Write the RAW group and its valid bit together (10_state.md R25, 20_memory.md R43). -/
def State.writeRaw (s : State) (g : RawGroup) : State :=
  { s with raw := some g, status := setRawV s.status }

/-- Write the DEC group and its valid bit together (10_state.md R26). -/
def State.writeDec (s : State) (g : DecGroup) : State :=
  { s with dec := some g, status := setDecV s.status }

/-- Write the VAL group and its valid bit together (10_state.md R27). -/
def State.writeVal (s : State) (v : Word) : State :=
  { s with val := some v, status := setValV s.status }

/-- The hidden datapath state moves (10_state.md R33): while an operation runs and after it, it may
hold any value and no result depends on it, so it takes free values (log 8). -/
def State.stirHidden (s : State) : State :=
  { s with
    macc := Config.unspecified 24 s.stream s.fresh
    iter := Config.unspecified 5 s.stream (s.fresh + 1)
    uexp := Config.unspecified 9 s.stream (s.fresh + 2)
    fresh := s.fresh + 3 }

/-- `STATUS.BUSY <- 0`, the end of every COMPLETE (10_state.md R30): nothing is in flight any more, and
the hidden state is left at any value. -/
def State.finish (s : State) : State :=
  { s.stirHidden with status := clearBusy s.status, left := 0 }

/-- ACCEPT's writes (10_state.md R29) for a request whose COMPLETE is `lat` edges away: the latch
takes the request, BUSY is set, every valid bit cleared, every group NOVAL. -/
def State.latch (s : State) (op : BitVec 2) (a b c : Word) (lat : Nat) : State :=
  { s with
    opr := op, opa := a, opb := b, opc := c
    status := statusAccepted
    raw := none, dec := none, val := none
    left := lat }

/-- How the host holds the port after an ACCEPT (log 13). -/
def holdAfterAccept : Hold → Hold
  | .untilAccept => .untilAccept
  | .beyond => .accepted
  | .accepted => .accepted

/-- `req_valid` after an ACCEPT, as the host drives it (70_reset_and_hazards.md R165; log 13). -/
def validAfterAccept : Hold → Bool
  | .untilAccept => false
  | .beyond => true
  | .accepted => true

/-- ACCEPT of the request on the port (10_state.md R29). The host, which sees it, remembers what it had
presented, and drops or holds `req_valid` (70_reset_and_hazards.md R164, R165; log 13). The latency is
a free value (log 3). -/
def State.accept (s : State) : State :=
  { s.stirHidden.latch s.reqOp s.reqA s.reqB s.reqC (Config.latency s.reqOp s.stream s.fresh) with
    reqValid := validAfterAccept s.reqHold
    reqHold := holdAfterAccept s.reqHold
    presented := some s.offered }

/-- An edge with `rst` = 1 (70_reset_and_hazards.md R160, R161): STATUS 0, every group NOVAL, the
operation in flight abandoned, a presented request left on the port; the latch and the hidden state
become unspecified (10_state.md R34), so they take free values (log 7). -/
def State.resetCore (s : State) : State :=
  { s with
    status := statusReset
    raw := none, dec := none, val := none
    opr := Config.unspecified 2 s.stream s.fresh
    opa := Config.unspecified 32 s.stream (s.fresh + 1)
    opb := Config.unspecified 32 s.stream (s.fresh + 2)
    opc := Config.unspecified 32 s.stream (s.fresh + 3)
    macc := Config.unspecified 24 s.stream (s.fresh + 4)
    iter := Config.unspecified 5 s.stream (s.fresh + 5)
    uexp := Config.unspecified 9 s.stream (s.fresh + 6)
    left := 0
    fresh := s.fresh + 7 }

/-- The level of `rst` at the coming edge (10_state.md R21). -/
def State.rst (s : State) : Bool := s.rstPlan.headD false

/-- One edge of `clk` passes: the next level of `rst` stands on the port. -/
def State.passEdge (s : State) : State := { s with rstPlan := s.rstPlan.tail }

/-- The levels of `rst` with the next one 0. -/
def lowNext : List Bool → List Bool
  | [] => []
  | _ :: rest => false :: rest

/-- The platform holds `rst` at 0 for the coming edge. -/
def State.holdRstLow (s : State) : State := { s with rstPlan := lowNext s.rstPlan }

/-- One edge of an operation still in flight (10_state.md R30). -/
def State.countDown (s : State) : State := { s.stirHidden with left := s.left - 1 }

/-- What a register on an output port holds, zero-extended to 32 bits; none is NOVAL (10_state.md
R21, R28). Reading changes nothing (20_memory.md R43). -/
def State.readReg (s : State) : Reg → Option Word
  | .status => some (s.status.zeroExtend 32)
  | .resSign => s.raw.map fun g => g.sign.zeroExtend 32
  | .resExp => s.raw.map fun g => g.exp.zeroExtend 32
  | .resMant => s.raw.map fun g => g.mant.zeroExtend 32
  | .resSunit => s.dec.map fun g => g.sunit
  | .resEval => s.dec.map fun g => g.eval
  | .resMval => s.dec.map fun g => g.mval
  | .resValue => s.val

/-- The choice of the next move is drawn anew while the host has steps left; with none left only
edges can come, and no choice is drawn (log 2). -/
def State.drawTurn (s : State) : State :=
  { s with
    turn := if s.script.isEmpty then s.turn else if Config.hostFirst s.stream s.fresh then .host else .edge
    fresh := if s.script.isEmpty then s.fresh else s.fresh + 1 }

end Sys2Proof.Machine
end

