-- ==== Sys2Proof/Machine/Extract.lean ====
section
/-! DEFINITION. The Field Extractor (40_extract.md R70 to R72) and EXTRACT (R73). -/

namespace Sys2Proof.Machine

/-- `extract(w)`: logical shifts and masks (40_extract.md R70). Total, every pattern accepted (R71). -/
def extractFields (w : Word) : RawGroup where
  sign := (w >>> 31 &&& 0x1#32).setWidth 1
  exp := (w >>> 23 &&& 0xFF#32).setWidth 8
  mant := (w &&& 0x7FFFFF#32).setWidth 23

/-- EXTRACT at its COMPLETE (40_extract.md R73): the RAW group and RAW_V; B and C are ignored. -/
def execExtract (a _b _c : Word) (s : State) : Host.Outcome State Fault Refusal :=
  .next (s.writeRaw (extractFields a)).finish

end Sys2Proof.Machine
end

