-- ==== Sys2Proof/Machine/Decoder.lean ====
section
/-! DEFINITION. The Field Decoder with its bit-weighting accumulator (41_decode.md R80 to R87) and
DECODE (R88). -/

namespace Sys2Proof.Machine

/-- `signUnit(s)`: +1.0 or -1.0, by direct selection (41_decode.md R80). -/
def signUnit (s : BitVec 1) : Word := if s = 0#1 then 0x3F800000#32 else 0xBF800000#32

/-- `UEXP`: the biased exponent less `BIAS` in 9-bit two's complement (41_decode.md R81). -/
def unbiasedExp (e : BitVec 8) : BitVec 9 := e.zeroExtend 9 - BitVec.ofNat 9 Config.bias

/-- `expValue(e)`: 2 to the unbiased exponent read as signed; e = 0 and e = 255 are not guarded
(41_decode.md R82, R87). -/
def expValue (e : BitVec 8) : Word := pow2 (unbiasedExp e).toInt

/-- The accumulator MACC, unsigned Q1.23, with its bit position ITER (10_state.md R33). -/
structure Accumulator where
  macc : BitVec 24
  iter : BitVec 5
deriving DecidableEq, Repr

/-- MACC starts at 1.0, the hidden bit, at bit position 0 (41_decode.md R83). -/
def accStart : Accumulator where
  macc := 0x800000#24
  iter := 0#5

/-- One iteration: test the mantissa bit at the position with the mask `1 << i`, and add its weight
`1 << i` if it is set (41_decode.md R83). -/
def accStep (m : BitVec 23) (acc : Accumulator) : Accumulator where
  macc := if m &&& 1#23 <<< acc.iter.toNat ≠ 0#23 then acc.macc + 1#24 <<< acc.iter.toNat else acc.macc
  iter := acc.iter + 1#5

/-- `n` iterations from the start. -/
def accRun (m : BitVec 23) : Nat → Accumulator
  | 0 => accStart
  | n + 1 => accStep m (accRun m n)

/-- The accumulator after its 23 iterations (41_decode.md R83). -/
def accFinal (m : BitVec 23) : Accumulator := accRun m Config.accIters

/-- `mantValue(m)`: the binary32 word of MACC × 2^-23 (41_decode.md R85). -/
def mantValue (m : BitVec 23) : Word := round32 0#1 (accFinal m).macc.toNat (-23)

/-- `decode(s, e, m)` (41_decode.md R86): each component depends on one field only. -/
def decodeTriple (g : RawGroup) : DecGroup where
  sunit := signUnit g.sign
  eval := expValue g.exp
  mval := mantValue g.mant

/-- DECODE at its COMPLETE (41_decode.md R88): the DEC group and DEC_V; B and C are ignored. -/
def execDecode (a _b _c : Word) (s : State) : Host.Outcome State Fault Refusal :=
  .next (s.writeDec (decodeTriple (extractFields a))).finish

end Sys2Proof.Machine
end

