-- ==== Sys2Proof/Machine/Reconstruct.lean ====
section
/-! DEFINITION. The Value Reconstructor (42_reconstruct.md R102) and RECONSTRUCT (R104). -/

namespace Sys2Proof.Machine

/-- `reconstruct(su, ev, mv)`: (sign × exponent) × mantissa, each product rounded once
(42_reconstruct.md R102). Where the first product is a NaN the second takes NAN_RESULT of that word and
`mv`, as the pseudocode says; R104's list of corner cases stops at the first (DESIGN CHOICE, log 26). -/
def reconstruct (su ev mv : Word) : Word := fmul32 (fmul32 su ev) mv

/-- RECONSTRUCT at its COMPLETE (42_reconstruct.md R104): the VAL group and VAL_V. -/
def execReconstruct (a b c : Word) (s : State) : Host.Outcome State Fault Refusal :=
  .next (s.writeVal (reconstruct a b c)).finish

end Sys2Proof.Machine
end

