-- ==== Sys2Proof/Machine/Roundtrip.lean ====
section
/-! DEFINITION. The full pipeline (00_scope.md R2) and ROUNDTRIP (43_roundtrip.md R120). -/

namespace Sys2Proof.Machine

/-- `reconstruct` of a decoded triple (42_reconstruct.md R102, R103). -/
def reconstructGroup (g : DecGroup) : Word := reconstruct g.sunit g.eval g.mval

/-- The whole pipeline on one raw word (43_roundtrip.md R120). -/
def roundtripValue (w : Word) : Word := reconstructGroup (decodeTriple (extractFields w))

/-- ROUNDTRIP at its COMPLETE (43_roundtrip.md R120): all three groups and valid bits; B and C are
ignored. -/
def execRoundtrip (a _b _c : Word) (s : State) : Host.Outcome State Fault Refusal :=
  .next (((s.writeRaw (extractFields a)).writeDec (decodeTriple (extractFields a))).writeVal
    (roundtripValue a)).finish

end Sys2Proof.Machine
end

