-- ==== Sys2Proof/Machine/Dispatch.lean ====
section
/-! DEFINITION. `exec`: the meaning of a request at its COMPLETE (10_state.md R30; log 1), one arm per
request. -/

namespace Sys2Proof.Machine

def exec (i : Instr) (s : State) : Host.Outcome State Fault Refusal :=
  match i with
  | .extract a b c => Sys2Proof.Machine.execExtract a b c s
  | .decode a b c => Sys2Proof.Machine.execDecode a b c s
  | .reconstruct a b c => Sys2Proof.Machine.execReconstruct a b c s
  | .roundtrip a b c => Sys2Proof.Machine.execRoundtrip a b c s

end Sys2Proof.Machine
end

