-- ==== Sys2Proof/Machine/HostAgent.lean ====
section
/-! DEFINITION. The HOST (10_state.md R20): when it has a move and what each of its steps does
(70_reset_and_hazards.md R170, 60_exceptions.md R142, R144). It sees the CORE only through the output
ports, and touches it only through the request port and `rst`. -/

namespace Sys2Proof.Machine

/-- A HOST_ROUNDTRIP_MISMATCH. -/
def Fault.isMismatch : Fault → Bool
  | .readNoValue _ => false
  | .hostRoundtripMismatch _ _ => true

/-- After HOST_ROUNDTRIP_MISMATCH the host takes no further step (60_exceptions.md R144). -/
def State.hostHalted (s : State) : Bool := s.faults.any Fault.isMismatch

/-- The three values READ last, as DECODE.RAW reads them, packed for DECODE (30_encoding.md R57);
none where one of those READs returned no value (log 24). -/
def rawTripleRead : List ReadResult → Option Word
  | ⟨.resMant, some m⟩ :: ⟨.resExp, some e⟩ :: ⟨.resSign, some sg⟩ :: _ =>
    some (sg <<< 31 ||| e <<< 23 ||| m)
  | _ => none

/-- The three values READ last, as RECONSTRUCT.DEC reads them (30_encoding.md R57); none where one of
those READs returned no value (log 24). -/
def decTripleRead : List ReadResult → Option DecGroup
  | ⟨.resMval, some mv⟩ :: ⟨.resEval, some ev⟩ :: ⟨.resSunit, some su⟩ :: _ => some ⟨su, ev, mv⟩
  | _ => none

/-- The A of a request the host had presented, if that is a ROUNDTRIP. -/
def roundtripOperand : Option Instr → Option Word
  | some (.roundtrip a _ _) => some a
  | some (.extract _ _ _) => none
  | some (.decode _ _ _) => none
  | some (.reconstruct _ _ _) => none
  | none => none

/-- The host sees a COMPLETE and, of a ROUNDTRIP, remembers the A it had presented to it
(60_exceptions.md R144; log 12). -/
def State.noteCompleted (s : State) : State :=
  { s with roundtripA := (roundtripOperand s.presented).or s.roundtripA }

/-- The request on the port is waiting: presented, and not accepted yet (70_reset_and_hazards.md R164). -/
def State.waits (s : State) : Bool := s.reqValid && s.reqHold != .accepted

/-- When a step of the host is enabled (70_reset_and_hazards.md R170). WAIT holds the host until BUSY
is 0; an issue is enabled while BUSY is 0 and no reset comes at that edge; CHECK once a ROUNDTRIP has
completed (log 12); ports may be driven and read at any time (60_exceptions.md R147), but a request is
dropped only after its ACCEPT (R164, R165). -/
def State.stepEnabled (s : State) : HostStep → Bool
  | .issue _ => !s.busy && !s.rst
  | .present _ _ => true
  | .drive _ => true
  | .hold => !s.waits
  | .release => s.reqHold == .accepted
  | .wait => !s.busy
  | .read _ => true
  | .check => s.roundtripA.isSome
  | .reset => true
  | .presentDecodeRead => (rawTripleRead s.reads).isSome
  | .presentReconstructRead => (decTripleRead s.reads).isSome

/-- The host has a move: it is not halted, and its next step is enabled. -/
def State.hostReady (s : State) : Bool :=
  match s.script with
  | [] => false
  | h :: _ => !s.hostHalted && s.stepEnabled h

/-- The host drives the four request ports and leaves `req_valid` as it is. Changing an accepted request
that is still held presents a new one, to be held until its own ACCEPT (70_reset_and_hazards.md R164). -/
def State.driveRequest (s : State) (i : Instr) : State :=
  { s with
    reqOp := i.op, reqA := i.a, reqB := i.b, reqC := i.c
    reqHold := if s.reqHold = .accepted then .beyond else s.reqHold }

/-- The host presents a request on the port (70_reset_and_hazards.md R164). -/
def State.present (s : State) (i : Instr) (keep : Bool) : State :=
  { s with
    reqValid := true
    reqOp := i.op, reqA := i.a, reqB := i.b, reqC := i.c
    reqHold := if keep then .beyond else .untilAccept }

/-- The host drops `req_valid` (70_reset_and_hazards.md R165). -/
def State.releasePort (s : State) : State := { s with reqValid := false, reqHold := .untilAccept }

/-- Record a fault; no step ever removes one (60_exceptions.md R143). -/
def State.recordFault (s : State) (f : Fault) : State := { s with faults := f :: s.faults }

/-- READ reg: the register's value, or the fault READ_NO_VALUE (60_exceptions.md R142). -/
def State.hostRead (s : State) (r : Reg) : State :=
  match s.readReg r with
  | some v => { s with reads := ⟨r, some v⟩ :: s.reads }
  | none => { s.recordFault (.readNoValue r) with reads := ⟨r, none⟩ :: s.reads }

/-- CHECK: RES_VALUE against the A presented to the ROUNDTRIP that completed last, bit for bit
(60_exceptions.md R144, 00_scope.md R17; log 12). -/
def State.hostCheck (s : State) : State :=
  match s.val, s.roundtripA with
  | none, _ => s.recordFault (.readNoValue .resValue)
  | some v, some a => if v = a then s else s.recordFault (.hostRoundtripMismatch a v)
  | some _, none => s

/-- The effect of one step of the host, taken off the script already. RESET is the platform driving
`rst` = 1 for one edge (30_encoding.md R56), and the effect of an issue is ACCEPT (R170), so that edge
is part of the step. -/
def State.hostEffect (s : State) : HostStep → State
  | .issue i => (s.present i false).passEdge.accept
  | .present i keep => s.present i keep
  | .drive i => s.driveRequest i
  | .hold => s
  | .release => s.releasePort
  | .wait => s
  | .read r => s.hostRead r
  | .check => s.hostCheck
  | .reset => s.passEdge.resetCore
  | .presentDecodeRead =>
    match rawTripleRead s.reads with
    | some a => s.present (.decode a 0#32 0#32) false
    | none => s
  | .presentReconstructRead =>
    match decTripleRead s.reads with
    | some g => s.present (.reconstruct g.sunit g.eval g.mval) false
    | none => s

/-- The host takes its next step. -/
def State.hostMove (s : State) : State :=
  match s.script with
  | [] => s
  | h :: rest => { s with script := rest }.hostEffect h

end Sys2Proof.Machine
end

