-- ==== Sys2Proof/Machine/Edge.lean ====
section
/-! DEFINITION. One rising edge of `clk` (10_state.md R21): reset before everything
(70_reset_and_hazards.md R161), else COMPLETE or one edge of the operation in flight (10_state.md
R30), else ACCEPT (R29), else nothing (60_exceptions.md R152). -/

namespace Sys2Proof.Machine

/-- The clock has nothing to do: no reset to come, nothing in flight, no request on the port. -/
def State.clockIdle (s : State) : Bool := s.rstPlan.isEmpty && !s.busy && !s.reqValid

/-- An edge with nothing to do changes nothing (60_exceptions.md R152). Where a fault is recorded and
nothing is left to do, the run has ended in that fault (R143; log 10). -/
def idleEdge (s : State) : Host.Outcome State Fault Refusal :=
  match s.rstPlan, s.faults with
  | [], f :: _ => .fault f
  | [], [] => .next s
  | _ :: _, _ => .next s.passEdge

/-- One rising edge of `clk`. At a COMPLETE the host takes note of it (60_exceptions.md R144), and the
request in the latch is executed. -/
def clockEdge (s : State) : Host.Outcome State Fault Refusal :=
  if s.rst then .next s.passEdge.resetCore
  else if s.busy then
    if s.left ≤ 1 then exec s.latched s.passEdge.noteCompleted else .next s.passEdge.countDown
  else if s.reqValid then .next s.passEdge.accept
  else idleEdge s

/-- The host moves: it has a move, and either it is the host's turn or the clock has nothing to do. -/
def State.hostMoves (s : State) : Bool := s.hostReady && (s.turn == .host || s.clockIdle)

end Sys2Proof.Machine
end

