-- ==== Sys2Proof/Machine/Step.lean ====
section
/-! DEFINITION. One step of the machine: one move of the HOST or one rising edge of `clk`
(10_state.md R20, R21; log 2), and the placing of a request where the next step runs it (log 16). -/

namespace Sys2Proof.Machine

/-- One step. Whose move comes after it is drawn before the move (log 2). -/
def step (s : State) : Host.Outcome State Fault Refusal :=
  if s.hostMoves then .next s.drawTurn.hostMove else clockEdge s.drawTurn

/-- `s` with the request whose bundle is `w` accepted and about to complete: the latch and STATUS as
ACCEPT leaves them, its COMPLETE at the next edge, `rst` low there, and the clock's turn (log 16). -/
def State.withFetchWord (s : State) (nbits w : Nat) : State :=
  let b := BitVec.ofNat 98 (w % 2 ^ nbits)
  { s.holdRstLow.latch (bundleOp b) (bundleA b) (bundleB b) (bundleC b) 1 with turn := .edge }

end Sys2Proof.Machine
end

