-- ==== Sys2Proof/Machine/Platform.lean ====
section
/-! DEFINITION. What stands around one CORE: several instances that share nothing (20_memory.md R48,
60_exceptions.md R150), and the host's own byte memory (R41, 40_extract.md R74). -/

namespace Sys2Proof.Machine

/-- The CORE instances of a platform, each with its host (20_memory.md R48). -/
abbrev Platform := List State

/-- A platform of `N_INSTANCES` instances after reset (00_scope.md R8). The spec leaves open whether the
latencies, the unspecified bits and the interleavings of two instances agree; the model gives every
instance its own stream of free values, so that they are independent (20_memory.md R48, 60_exceptions.md
R150; DESIGN CHOICE, log 20). -/
def platformReset : Platform :=
  (List.range Config.instances).map fun k => { State.reset with stream := k }

/-- One step of instance `k`; the platform stops where that instance does. -/
def platformStep (p : Platform) (k : Nat) : Host.Outcome Platform Fault Refusal :=
  match p[k]? with
  | none => .next p
  | some s =>
    match step s with
    | .next t => .next (p.set k t)
    | .fault f => .fault f
    | .refused r => .refused r

/-- The bytes of a word in the host's memory, lowest address first, in a byte order (00_scope.md R8). -/
def wordBytes (o : ByteOrder) (w : Word) : List (BitVec 8) :=
  match o with
  | .little => [w.extractLsb' 0 8, w.extractLsb' 8 8, w.extractLsb' 16 8, w.extractLsb' 24 8]
  | .big => [w.extractLsb' 24 8, w.extractLsb' 16 8, w.extractLsb' 8 8, w.extractLsb' 0 8]

/-- The word the host reads back from four of its bytes. -/
def bytesWord (o : ByteOrder) : List (BitVec 8) → Option Word
  | [b0, b1, b2, b3] =>
    match o with
    | .little => some (b3 ++ b2 ++ b1 ++ b0)
    | .big => some (b0 ++ b1 ++ b2 ++ b3)
  | _ => none

/-- How this platform's host stores a word: `HOST_BYTE_ORDER` (00_scope.md R8; log 19). -/
def hostStore (w : Word) : List (BitVec 8) := wordBytes Config.hostByteOrder w

/-- How this platform's host reads a word back, as RawFloatBits (40_extract.md R74). -/
def hostLoad (bytes : List (BitVec 8)) : Option Word := bytesWord Config.hostByteOrder bytes

end Sys2Proof.Machine
end

