-- ==== Sys2Proof/Machine/Assembler.lean ====
section
/-! DEFINITION. The spec's request notation (30_encoding.md R56, R57): a source line assembles to the
host's steps, or is refused by name. -/

namespace Sys2Proof.Machine

/-- Why the assembler refuses a line. -/
inductive AsmError where
  /-- An operand is no 32-bit word (30_encoding.md R56; log 23). -/
  | operandTooWide
  /-- DECODE.F out of range (30_encoding.md R57). -/
  | tripleOutOfRange
deriving DecidableEq, Repr

/-- A request line presents its request and holds it until it is accepted, so that the next line starts
only after that ACCEPT (30_encoding.md R56; log 21). -/
def requestSteps (i : Instr) : List HostStep := [.present i false, .hold]

/-- The request of a line whose operands are the given numbers; an operand the line does not give is
0 (30_encoding.md R58). -/
def issueLine (fits : Bool) (i : Instr) : Except AsmError (List HostStep) :=
  if fits then .ok (requestSteps i) else .error .operandTooWide

/-- The expansion of one line (30_encoding.md R56, R57). -/
def assembleLine : Line → Except AsmError (List HostStep)
  | .extract a => issueLine (Line.wellFormed (.extract a)) (.extract (BitVec.ofNat 32 a) 0#32 0#32)
  | .decode a => issueLine (Line.wellFormed (.decode a)) (.decode (BitVec.ofNat 32 a) 0#32 0#32)
  | .reconstruct a b c =>
    issueLine (Line.wellFormed (.reconstruct a b c))
      (.reconstruct (BitVec.ofNat 32 a) (BitVec.ofNat 32 b) (BitVec.ofNat 32 c))
  | .roundtrip a => issueLine (Line.wellFormed (.roundtrip a)) (.roundtrip (BitVec.ofNat 32 a) 0#32 0#32)
  | .reset => .ok [.reset]
  | .wait => .ok [.wait]
  | .read r => .ok [.read r]
  | .check => .ok [.check]
  | .decodeF s e m =>
    if fitsTriple s e m then
      .ok (requestSteps
        (.decode (packTriple ⟨BitVec.ofNat 1 s, BitVec.ofNat 8 e, BitVec.ofNat 23 m⟩) 0#32 0#32))
    else .error .tripleOutOfRange
  | .decodeRaw => .ok [.wait, .read .resSign, .read .resExp, .read .resMant, .presentDecodeRead, .hold]
  | .reconstructDec =>
    .ok [.wait, .read .resSunit, .read .resEval, .read .resMval, .presentReconstructRead, .hold]

/-- The host's steps for a sequence of lines; the first refused line refuses it. -/
def assemble : List Line → Except AsmError (List HostStep)
  | [] => .ok []
  | l :: ls =>
    match assembleLine l with
    | .error e => .error e
    | .ok steps =>
      match assemble ls with
      | .error e => .error e
      | .ok rest => .ok (steps ++ rest)

/-- The launch state with the host's steps placed from outside (70_reset_and_hazards.md R172; log 16). -/
def State.launch (script : List HostStep) : State := { State.reset with script := script }

end Sys2Proof.Machine
end

