-- ==== Sys2Proof/Safety.lean ====
section
/-! DEFINITION. What counts as a good state and a good end of a run (70_reset_and_hazards.md R171,
R172), and the invariant of the CORE and its host. -/

namespace Sys2Proof.Machine

/-- No fault is recorded (60_exceptions.md R143). -/
def State.noFault (s : State) : Prop := s.faults = []

/-- Every group is NOVAL. -/
def State.allNoval (s : State) : Prop := s.raw = none ∧ s.dec = none ∧ s.val = none

/-- The launch premises every claim names (70_reset_and_hazards.md R172): the state of 10_state.md
R34, no fault recorded, no request in flight. -/
def State.isLaunch (s : State) : Prop :=
  s.status = 0#4 ∧ s.allNoval ∧ s.left = 0 ∧ s.noFault

/-- The end of a run (70_reset_and_hazards.md R171): the host has no further step, BUSY is 0, no fault
is recorded; nothing waits on the port and no reset is to come. -/
def State.isEnd (s : State) : Prop := s.script = [] ∧ s.clockIdle = true ∧ s.noFault

/-- The RAW group a request writes (30_encoding.md R51). -/
def rawOf : Instr → Option RawGroup
  | .extract a _ _ => some (extractFields a)
  | .decode _ _ _ => none
  | .reconstruct _ _ _ => none
  | .roundtrip a _ _ => some (extractFields a)

/-- The DEC group a request writes (30_encoding.md R51). -/
def decOf : Instr → Option DecGroup
  | .extract _ _ _ => none
  | .decode a _ _ => some (decodeTriple (extractFields a))
  | .reconstruct _ _ _ => none
  | .roundtrip a _ _ => some (decodeTriple (extractFields a))

/-- The VAL group a request writes (30_encoding.md R51). -/
def valOf : Instr → Option Word
  | .extract _ _ _ => none
  | .decode _ _ _ => none
  | .reconstruct a b c => some (reconstruct a b c)
  | .roundtrip a _ _ => some (roundtripValue a)

/-- The valid bits say which groups hold a value (10_state.md R24 to R28). -/
def State.validBitsRight (s : State) : Prop :=
  s.rawV = s.raw.isSome ∧ s.decV = s.dec.isSome ∧ s.valV = s.val.isSome

/-- An operation is in flight exactly while BUSY is 1, and then every group is NOVAL (10_state.md R29,
R30). -/
def State.busyRight (s : State) : Prop :=
  (s.busy = true ↔ 0 < s.left) ∧ (s.busy = true → s.allNoval)

/-- The groups hold nothing, or exactly the results of the last accepted request (20_memory.md R45). -/
def State.groupsRight (s : State) : Prop :=
  s.allNoval ∨ (s.raw = rawOf s.latched ∧ s.dec = decOf s.latched ∧ s.val = valOf s.latched)

/-- What the host remembers is so (60_exceptions.md R144): the request it had presented at the last ACCEPT
is the one in flight or completed, and once a ROUNDTRIP's result stands, its A is the one a CHECK
compares with. -/
def State.presentedRight (s : State) : Prop :=
  (s.busy = true ∨ s.val.isSome = true → s.presented = some s.latched) ∧
  (s.val.isSome = true → (roundtripOperand s.presented).isSome = true →
    s.roundtripA = roundtripOperand s.presented)

/-- The invariant. -/
def State.Inv (s : State) : Prop :=
  s.validBitsRight ∧ s.busyRight ∧ s.groupsRight ∧ s.presentedRight

/-- The valid bit that guards a register; STATUS needs none (10_state.md R24, 60_exceptions.md R142). -/
def State.groupValid (s : State) : Reg → Bool
  | .status => true
  | .resSign => s.rawV
  | .resExp => s.rawV
  | .resMant => s.rawV
  | .resSunit => s.decV
  | .resEval => s.decV
  | .resMval => s.decV
  | .resValue => s.valV

/-- The request latch is the same (10_state.md R23). -/
def State.sameLatch (s t : State) : Prop :=
  t.opr = s.opr ∧ t.opa = s.opa ∧ t.opb = s.opb ∧ t.opc = s.opc

/-- The hidden datapath state is the same (10_state.md R33). -/
def State.sameHidden (s t : State) : Prop :=
  t.macc = s.macc ∧ t.iter = s.iter ∧ t.uexp = s.uexp

/-- The state with other hidden state (10_state.md R33). -/
def State.withHidden (s : State) (m : BitVec 24) (i : BitVec 5) (u : BitVec 9) : State :=
  { s with macc := m, iter := i, uexp := u }

/-- The result groups are the same (10_state.md R25 to R27). -/
def State.sameGroups (s t : State) : Prop :=
  t.raw = s.raw ∧ t.dec = s.dec ∧ t.val = s.val

/-- The CORE is the same: STATUS, groups, latch, hidden state and the operation in flight. -/
def State.sameCore (s t : State) : Prop :=
  t.status = s.status ∧ s.sameGroups t ∧ s.sameLatch t ∧ s.sameHidden t ∧ t.left = s.left

/-- The request port is the same, and how the host holds it (10_state.md R21). -/
def State.sameRequestPort (s t : State) : Prop :=
  t.reqValid = s.reqValid ∧ t.reqOp = s.reqOp ∧ t.reqA = s.reqA ∧ t.reqB = s.reqB ∧ t.reqC = s.reqC ∧
  t.reqHold = s.reqHold

/-- The host remembers the same: what it presented and read, and the faults recorded. -/
def State.sameMemory (s t : State) : Prop :=
  t.presented = s.presented ∧ t.roundtripA = s.roundtripA ∧ t.reads = s.reads ∧ t.faults = s.faults

/-- The host is the same: its remaining steps and what it remembers. -/
def State.sameHost (s t : State) : Prop := t.script = s.script ∧ s.sameMemory t

/-- What a COMPLETE never touches: the latch, every input port, the host, and the model's own turn
(10_state.md R30: an operation writes only the groups its rule names). The hidden state is left at any
value (log 8). -/
def State.completeFrame (s t : State) : Prop :=
  s.sameLatch t ∧ s.sameRequestPort t ∧ t.rstPlan = s.rstPlan ∧ s.sameHost t ∧
  t.turn = s.turn

/-- n / 2 rounded half to even (42_reconstruct.md R103). -/
def halfEven (n : Word) : Word := (n >>> 1) + ((n &&& 1#32) &&& ((n >>> 1) &&& 1#32))

/-- The closed form of ROUNDTRIP, by class of its operand (43_roundtrip.md R122). -/
def roundtripByClass (a : Word) : Word :=
  if isNormal a then a
  else if isInf a || isNaN a then packWord (signField a) 255#8 0#23
  else (signField a).zeroExtend 32 <<< 31 ||| halfEven (0x800000#32 + (fracField a).zeroExtend 32)

end Sys2Proof.Machine
end

