-- ==== Sys2Proof/Certificates/Slice0/Obligations.lean ====
section
/-! DEFINITION. The statements for the provers, each from a numbered rule of spec/. -/

open Sys2Proof Sys2Proof.Machine

/-! ## Encoding (30_encoding.md) -/

/-- Request bundles written out from 30_encoding.md R50, R51 and R58 decode to their requests: OP in
bits 97:96, then A, B, C. -/
def Obligations.PrintedRequestsDecode : Prop :=
  decode 0x0_42AFBD71_FFFFFFFF_12345678#98 = .extract 0x42AFBD71#32 0xFFFFFFFF#32 0x12345678#32 ∧
  decode 0x1_40000000_00000000_00000000#98 = .decode 0x40000000#32 0#32 0#32 ∧
  decode 0x2_3F800000_40000000_3F800001#98 = .reconstruct 0x3F800000#32 0x40000000#32 0x3F800001#32 ∧
  decode 0x3_42AFBD71_00000000_00000000#98 = .roundtrip 0x42AFBD71#32 0#32 0#32 ∧
  printed (.roundtrip 0x42AFBD71#32 0#32 0#32) = "3:42AFBD71:00000000:00000000"

/-- Decoding the bundle of a request gives the request back, whatever its operands (30_encoding.md
R50, R51). -/
def Obligations.DecodeOfEncode : Prop := ∀ i : Instr, decode (encode i) = i

/-- Encoding the request of a bundle gives the bundle back: no bit of any bundle is dropped, the
ignored operands' bits among them (30_encoding.md R50, R53, R54). -/
def Obligations.EncodeOfDecode : Prop := ∀ w : BitVec 98, encode (decode w) = w

/-- 30_encoding.md R54: every one of the 2^98 bundles is a valid request; the decoder never refuses
one, and each has an effect in every state. -/
def Obligations.EveryBundleIsARequest : Prop :=
  ∀ w : Nat, w < 2 ^ 98 → ∃ i, decodeTableWord 98 w = some i ∧ i.wellFormed = true ∧
    (encode i).toNat = w ∧ ∀ s, ∃ t, exec i s = .next t

/-- 30_encoding.md R53: an ignored operand is latched by ACCEPT but has no effect: the whole outcome of
EXTRACT, DECODE and ROUNDTRIP is the same whatever B and C hold. -/
def Obligations.IgnoredOperandsHaveNoEffect : Prop :=
  (∀ s : State, s.rst = false → s.busy = false → s.reqValid = true →
    ∃ t, clockEdge s = .next t ∧ t.opb = s.reqB ∧ t.opc = s.reqC) ∧
  (∀ (a b c b' c' : Word) (s : State),
    exec (.extract a b c) s = exec (.extract a b' c') s ∧
    exec (.decode a b c) s = exec (.decode a b' c') s ∧
    exec (.roundtrip a b c) s = exec (.roundtrip a b' c') s)

/-! ## Steps: ACCEPT, COMPLETE, reset (10_state.md, 70_reset_and_hazards.md) -/

/-- A step runs the latched request: in a busy state at its last edge, with `rst` low and the host not
moving, the step is `exec` of the request in the latch, on the state after the draw of the next turn,
the passing of the edge and the host's note of the COMPLETE (10_state.md R30, log 12). -/
def Obligations.StepRunsLatchedRequest : Prop :=
  ∀ s : State, s.rst = false → s.busy = true → s.left ≤ 1 → s.hostMoves = false →
    step s = exec s.latched s.drawTurn.passEdge.noteCompleted

/-- A request placed by `withFetchWord` is run by the very next step, and completes (log 16). -/
def Obligations.FetchedRequestRunsNext : Prop :=
  ∀ (s : State) (nbits w : Nat), w % 2 ^ nbits < 2 ^ 98 → ∃ i t,
    decodeTableWord nbits w = some i ∧ (s.withFetchWord nbits w).latched = i ∧
    step (s.withFetchWord nbits w) = exec i (s.withFetchWord nbits w).drawTurn.passEdge.noteCompleted ∧
    step (s.withFetchWord nbits w) = .next t ∧ t.busy = false

/-- 10_state.md R29: ACCEPT at an edge with `rst` 0, `req_valid` 1 and BUSY 0 latches OP, A, B and C,
sets BUSY, clears every valid bit and makes every group NOVAL; at any other edge no request is
accepted, and a request presented while BUSY is 1 stays on the port as it is. -/
def Obligations.AcceptOnlyAtReadyEdge : Prop :=
  (∀ s : State, s.rst = false → s.reqValid = true → s.busy = false →
    ∃ t, clockEdge s = .next t ∧
      t.opr = s.reqOp ∧ t.opa = s.reqA ∧ t.opb = s.reqB ∧ t.opc = s.reqC ∧
      t.busy = true ∧ t.rawV = false ∧ t.decV = false ∧ t.valV = false ∧ t.allNoval ∧ 1 ≤ t.left ∧
      t.presented = some s.offered ∧ t.roundtripA = s.roundtripA ∧ t.script = s.script ∧
      t.reads = s.reads ∧ t.faults = s.faults) ∧
  (∀ s t : State, ¬ (s.rst = false ∧ s.reqValid = true ∧ s.busy = false) → clockEdge s = .next t →
    t.busy = (!s.rst && s.busy && decide (1 < s.left)) ∧ s.sameRequestPort t ∧
      (s.rst = false → s.sameLatch t))

/-- The edges of an operation between its ACCEPT and its COMPLETE change nothing but how far off the
COMPLETE is (10_state.md R30): no result, no valid bit, no register; only the hidden state may take any
value (R33, log 8). -/
def Obligations.BusyEdgeOnlyCountsDown : Prop :=
  ∀ s : State, s.rst = false → s.busy = true → 1 < s.left →
    ∃ t, clockEdge s = .next t ∧ t.left + 1 = s.left ∧ t.status = s.status ∧ s.sameGroups t ∧
      s.sameLatch t ∧ s.sameRequestPort t ∧ s.sameHost t

/-- COMPLETE falls LAT_op edges after ACCEPT and not before (10_state.md R30, 70_reset_and_hazards.md
R168): with no host step left and no reset to come, the request on the port is accepted at the next
edge, is in flight after each of the LAT_op - 1 edges that follow, and after the LAT_op-th edge its
results stand in the groups and BUSY is 0. LAT_op is a free value (log 3): the statement holds for
every latency. -/
def Obligations.CompleteFallsAtLatency : Prop :=
  ∀ s : State, s.script = [] → s.rstPlan = [] → s.busy = false → s.reqValid = true →
    (∀ k, k < Config.latency s.reqOp s.stream s.fresh →
      ∃ t, Sys2Proof.core.run (1 + k) s = .next t ∧ t.busy = true ∧ t.allNoval) ∧
    ∃ t, Sys2Proof.core.run (1 + Config.latency s.reqOp s.stream s.fresh) s = .next t ∧ t.busy = false ∧
      t.raw = rawOf s.offered ∧ t.dec = decOf s.offered ∧ t.val = valOf s.offered

/-- 70_reset_and_hazards.md R161: at an edge with `rst` 1 no request is accepted and no operation
completes, whatever is presented or in flight; a presented request stays on the port and is accepted
at the following edge with `rst` 0. -/
def Obligations.ResetWinsOverAcceptAndComplete : Prop :=
  ∀ s : State, s.rst = true → ∃ t, clockEdge s = .next t ∧ t.status = 0#4 ∧ t.allNoval ∧
    t.left = 0 ∧ s.sameRequestPort t ∧ s.sameHost t ∧
    (t.rst = false → s.reqValid = true → ∃ u, clockEdge t = .next u ∧ u.busy = true ∧
      u.latched = s.offered)

/-- 70_reset_and_hazards.md R160: one reset edge or several in a row leave STATUS 0 and every group
NOVAL, and an abandoned operation writes no result and no valid bit, now or later: with no new request
on the port and no step of the host left, STATUS stays 0 and the groups NOVAL for ever. -/
def Obligations.ResetAbandonsOperation : Prop :=
  ∀ (s : State) (k n : Nat), s.script = [] → s.reqValid = false → s.faults = [] →
    s.rstPlan = List.replicate (k + 1) true →
    ∃ t, Sys2Proof.core.run (k + 1 + n) s = .next t ∧ t.status = 0#4 ∧ t.allNoval ∧ t.left = 0

/-- The state after reset (10_state.md R34, 70_reset_and_hazards.md R162, R172): STATUS 0b0000,
`req_ready` 1, every group NOVAL, nothing in flight, no fault, `rst` low. Its last clause, the idle
request port, is the model's choice (log 14): the spec gives the ports no value at launch. -/
def Obligations.ResetStateIsLaunch : Prop :=
  State.reset.isLaunch ∧ State.reset.reqReady = true ∧ State.reset.rst = false ∧
  (∀ r, State.reset.readReg r = if r = .status then some 0#32 else none) ∧
  State.reset.reqValid = false

/-- An edge with nothing to do changes no state (60_exceptions.md R152), as long as no fault is
recorded; only the level of `rst` moves on. -/
def Obligations.IdleEdgeChangesNothing : Prop :=
  ∀ s : State, s.rst = false → s.busy = false → s.reqValid = false → s.faults = [] →
    ∃ t, clockEdge s = .next t ∧ s.sameCore t ∧ s.sameRequestPort t ∧ s.sameHost t ∧
      t.rstPlan = s.rstPlan.tail

/-- 70_reset_and_hazards.md R165: the operands are taken at ACCEPT; after that edge the operation in
flight does not see the request ports: the CORE is the same after an edge whatever the host drives on
them. -/
def Obligations.OperationInFlightIgnoresPorts : Prop :=
  (∀ s : State, s.rst = false → s.busy = false → s.reqValid = true →
    ∃ t, clockEdge s = .next t ∧ t.busy = true ∧ t.latched = s.offered) ∧
  ∀ (s t : State) (v : Bool) (op : BitVec 2) (a b c : Word), s.rst = false → s.busy = true →
    clockEdge s = .next t →
    ∃ u, clockEdge { s with reqValid := v, reqOp := op, reqA := a, reqB := b, reqC := c } = .next u ∧
      t.sameCore u

/-! ## EXTRACT (40_extract.md) -/

/-- EXTRACT completes in every state: the RAW group takes bits 31, 30:23 and 22:0 of A, RAW_V is set
and BUSY cleared; the other groups, valid bits, the latch, the ports and the host stay (40_extract.md
R70, R73). -/
def Obligations.ExtractCompletes : Prop :=
  ∀ (a b c : Word) (s : State), ∃ t, exec (.extract a b c) s = .next t ∧
    t.raw = some ⟨a.extractLsb' 31 1, a.extractLsb' 23 8, a.extractLsb' 0 23⟩ ∧
    t.dec = s.dec ∧ t.val = s.val ∧
    t.rawV = true ∧ t.decV = s.decV ∧ t.valV = s.valV ∧ t.busy = false ∧ t.left = 0 ∧
    s.completeFrame t

/-- 40_extract.md R70: the shifts and masks of the extractor pick exactly bits 31, 30:23 and 22:0; the
sign bit is never copied. -/
def Obligations.ExtractedFieldsAreBits : Prop :=
  ∀ w : Word, (extractFields w).sign = w.extractLsb' 31 1 ∧
    (extractFields w).exp = w.extractLsb' 23 8 ∧ (extractFields w).mant = w.extractLsb' 0 23

/-- 40_extract.md R72, the bit-partition invariant: for every word the three fields, widened and
shifted, give the word back. -/
def Obligations.FieldsPartitionWord : Prop :=
  ∀ w : Word, (extractFields w).sign.zeroExtend 32 <<< 31 ||| (extractFields w).exp.zeroExtend 32 <<< 23
    ||| (extractFields w).mant.zeroExtend 32 = w

/-- Every raw triple has its packed word, from which the extractor takes the triple back, so no DECODE
operand is out of range (30_encoding.md R52, its sentence marked [derived]). -/
def Obligations.PackedTripleUnpacks : Prop := ∀ g : RawGroup, extractFields (packTriple g) = g

/-! ## DECODE (41_decode.md) -/

/-- DECODE completes in every state: ±1.0 by the sign, 2^(e-127) by the exponent (2^-127 as a
subnormal at 0, infinity at 255, unguarded), 1.m by the mantissa; DEC_V set and BUSY cleared; the rest
stays (41_decode.md R88; the closed forms are the spec's own [derived] ones, R82 and R85). -/
def Obligations.DecodeCompletes : Prop :=
  ∀ (a b c : Word) (s : State), ∃ t, exec (.decode a b c) s = .next t ∧
    t.dec = some
      ⟨if a.getLsbD 31 then 0xBF800000#32 else 0x3F800000#32,
       if expField a = 0#8 then 0x00400000#32
       else if expField a = 255#8 then 0x7F800000#32
       else (expField a).zeroExtend 32 <<< 23,
       0x3F800000#32 ||| (a &&& 0x7FFFFF#32)⟩ ∧
    t.raw = s.raw ∧ t.val = s.val ∧
    t.decV = true ∧ t.rawV = s.rawV ∧ t.valV = s.valV ∧ t.busy = false ∧ t.left = 0 ∧
    s.completeFrame t

/-- 41_decode.md R80: the signed unit is 0x3F800000 at 0 and 0xBF800000 at 1, whose values are exactly
+1.0 and -1.0. -/
def Obligations.SignUnitIsPlusMinusOne : Prop :=
  (∀ s : BitVec 1, signUnit s = if s = 0#1 then 0x3F800000#32 else 0xBF800000#32) ∧
  val32 (signUnit 0#1) = .real 1 ∧ val32 (signUnit 1#1) = .real (-1)

/-- 41_decode.md R81: the 9-bit subtraction of the bias never wraps: read as signed it is e - 127,
from -127 to +128. -/
def Obligations.UnbiasedExpNeverWraps : Prop :=
  ∀ e : BitVec 8, (unbiasedExp e).toInt = (e.toNat : Int) - 127 ∧
    -127 ≤ (unbiasedExp e).toInt ∧ (unbiasedExp e).toInt ≤ 128

/-- The exponent value of every exponent but 255 is the real number 2^(e-127), and at 255 it is
+infinity (41_decode.md R81 with 00_scope.md R12, R14; the table of R82 is marked [derived]). -/
def Obligations.ExpValueIsPowerOfTwo : Prop :=
  (∀ e : BitVec 8, e ≠ 255#8 → val32 (expValue e) = .real ((2 : ℚ) ^ ((e.toNat : Int) - 127))) ∧
  val32 (expValue 255#8) = .infinity false

/-- After n of the 23 iterations the accumulator holds 1.0 and the n lowest mantissa bits, at bit
position n; after all of them 0x800000 + m, with no overflow of 24 bits (41_decode.md R83; the closed
form of R84 is marked [derived]). -/
def Obligations.AccumulatorSumsMantissaBits : Prop :=
  (∀ (m : BitVec 23) (n : Nat), n ≤ 23 →
    (accRun m n).macc.toNat = 0x800000 + m.toNat % 2 ^ n ∧ (accRun m n).iter.toNat = n) ∧
  ∀ m : BitVec 23, (accFinal m).macc = 0x800000#24 + m.zeroExtend 24 ∧
    (accFinal m).macc = 0x800000#24 ||| m.zeroExtend 24

/-- The mantissa value is the word 0x3F800000 | m, the real number 1 + m / 2^23, in [1.0, 2.0)
(41_decode.md R83 with 00_scope.md R12, R14; R85 is marked [derived]; the range is the source's
property, R89). -/
def Obligations.MantissaValueInUnitInterval : Prop :=
  ∀ m : BitVec 23, mantValue m = 0x3F800000#32 ||| m.zeroExtend 32 ∧
    ∃ q : ℚ, val32 (mantValue m) = .real q ∧ q = 1 + (m.toNat : ℚ) / 2 ^ 23 ∧ 1 ≤ q ∧ q < 2

/-! ## Binary32 primitives and the multiplier (00_scope.md, 42_reconstruct.md) -/

/-- Powers of two as binary32 (00_scope.md R14; the table of R15 is marked [derived]). -/
def Obligations.PowersOfTwo : Prop :=
  ∀ k : Int,
    (-126 ≤ k → k ≤ 127 → pow2 k = BitVec.ofNat 32 ((k + 127).toNat * 2 ^ 23)) ∧
    (-149 ≤ k → k ≤ -127 → pow2 k = BitVec.ofNat 32 (2 ^ (k + 149).toNat)) ∧
    (128 ≤ k → pow2 k = 0x7F800000#32)

/-- Rounding is sign-symmetric (00_scope.md R14; its sentence is marked [derived]). -/
def Obligations.RoundingSignSymmetric : Prop :=
  ∀ (n : Nat) (k : Int), round32 1#1 n k = round32 0#1 n k ||| 0x80000000#32

/-- Rounding changes no value that binary32 holds: a finite word's exact value rounds to that word
(00_scope.md R13, R14). -/
def Obligations.RoundingKeepsFiniteWords : Prop :=
  ∀ w : Word, expField w ≠ 255#8 → round32 (signField w) (sig32 w).1 (sig32 w).2 = w

/-- Rounding is to nearest, ties to even, overflow to infinity (00_scope.md R14): the result is an
infinity of the sign exactly from 2^128 - 2^103 on, and otherwise a finite word that no finite word
is nearer than, with an even last significand bit where another finite word is as near. -/
def Obligations.RoundingIsToNearestEven : Prop :=
  ∀ (s : BitVec 1) (n : Nat) (k : Int),
    if (2 : ℚ) ^ (128 : Int) - 2 ^ (103 : Int) ≤ (n : ℚ) * 2 ^ k then
      round32 s n k = packWord s 255#8 0#23
    else ∃ q : ℚ, val32 (round32 s n k) = .real q ∧
      ∀ (w : Word) (p : ℚ), val32 w = .real p →
        |q - signFactor s * n * 2 ^ k| ≤ |p - signFactor s * n * 2 ^ k| ∧
        (w ≠ round32 s n k → |q - signFactor s * n * 2 ^ k| = |p - signFactor s * n * 2 ^ k| →
          (round32 s n k).getLsbD 0 = false)

/-- A product is a NaN exactly where an operand is one or an infinity meets a zero, and there it is
NAN_RESULT of the two operands, which is always a NaN (42_reconstruct.md R100, R101). NAN_RESULT is a
free value (log 4): the statement holds for every choice of it. -/
def Obligations.ProductNanExactlyWhere : Prop :=
  ∀ a b : Word, isNaN (nanResult a b) = true ∧
    (isNaN (fmul32 a b) = true ↔ isNaN a = true ∨ isNaN b = true ∨
      (isInf a = true ∧ isZero b = true) ∨ (isZero a = true ∧ isInf b = true)) ∧
    (isNaN (fmul32 a b) = true → fmul32 a b = nanResult a b)

/-- Products of infinities and zeros that are no NaN: a signed infinity, a signed zero, the sign the
exclusive or of the signs (42_reconstruct.md R100). -/
def Obligations.ProductOfInfinityAndZero : Prop :=
  ∀ a b : Word, isNaN a = false → isNaN b = false →
    (isInf a = true → isZero b = false →
      fmul32 a b = packWord (signField a ^^^ signField b) 255#8 0#23 ∧
      fmul32 b a = packWord (signField a ^^^ signField b) 255#8 0#23) ∧
    (isZero a = true → isInf b = false →
      fmul32 a b = packWord (signField a ^^^ signField b) 0#8 0#23 ∧
      fmul32 b a = packWord (signField a ^^^ signField b) 0#8 0#23)

/-- The product of two finite words is the exact product of their values rounded once, its sign the
exclusive or of the signs: an infinity exactly from 2^128 - 2^103 on, and otherwise a finite word that
no finite word is nearer than, with an even last significand bit where another finite word is as near
(42_reconstruct.md R100, its last two lines, with 00_scope.md R14). -/
def Obligations.ProductRoundsExactProduct : Prop :=
  ∀ (a b : Word) (p q : ℚ), val32 a = .real p → val32 b = .real q →
    signField (fmul32 a b) = signField a ^^^ signField b ∧
    if (2 : ℚ) ^ (128 : Int) - 2 ^ (103 : Int) ≤ |p * q| then
      fmul32 a b = packWord (signField a ^^^ signField b) 255#8 0#23
    else ∃ r : ℚ, val32 (fmul32 a b) = .real r ∧
      ∀ (w : Word) (x : ℚ), val32 w = .real x →
        |r - p * q| ≤ |x - p * q| ∧
        (w ≠ fmul32 a b → |r - p * q| = |x - p * q| → (fmul32 a b).getLsbD 0 = false)

/-- The multiplier commutes but for the choice of a NaN word (42_reconstruct.md R100). -/
def Obligations.ProductCommutes : Prop :=
  ∀ a b : Word, isNaN (fmul32 a b) = false → fmul32 b a = fmul32 a b

/-! ## RECONSTRUCT (42_reconstruct.md) -/

/-- RECONSTRUCT completes in every state: RES_VALUE is (A × B) × C, each product rounded once; VAL_V set
and BUSY cleared; the rest stays (42_reconstruct.md R102, R104). -/
def Obligations.ReconstructCompletes : Prop :=
  ∀ (a b c : Word) (s : State), ∃ t, exec (.reconstruct a b c) s = .next t ∧
    t.val = some (fmul32 (fmul32 a b) c) ∧ t.raw = s.raw ∧ t.dec = s.dec ∧
    t.valV = true ∧ t.rawV = s.rawV ∧ t.decV = s.decV ∧ t.busy = false ∧ t.left = 0 ∧
    s.completeFrame t

/-- The corner cases of 42_reconstruct.md R104 outside the decoded domain, each as R100 and R102 give it:
zeros, infinity times zero, a NaN operand, overflow, underflow ties, normal-range rounding, a signed
unit of 2.0, one word on all three buses; and the grouping of the products (R102). In the NaN-operand
case R104's own list, marked [derived], gives the first product NAN_RESULT(0x7FC00000, 0x3F800000); the
pseudocode, which the model follows by its own choice (log 26), gives NAN_RESULT of that word and
0x3F800000. -/
def Obligations.ReconstructCornerCases : Prop :=
  reconstruct 0x3F800000#32 0x00000000#32 0x3F800000#32 = 0x00000000#32 ∧
  reconstruct 0xBF800000#32 0x00000000#32 0x3F800000#32 = 0x80000000#32 ∧
  reconstruct 0x80000000#32 0x80000000#32 0x3F800000#32 = 0x00000000#32 ∧
  reconstruct 0x3F800000#32 0x7F800000#32 0x00000000#32 = nanResult 0x7F800000#32 0x00000000#32 ∧
  reconstruct 0x7FC00000#32 0x3F800000#32 0x3F800000#32 =
    nanResult (nanResult 0x7FC00000#32 0x3F800000#32) 0x3F800000#32 ∧
  reconstruct 0x40000000#32 0x3F800000#32 0x3F800000#32 = 0x40000000#32 ∧
  reconstruct 0x3F800000#32 0x7F000000#32 0x40000000#32 = 0x7F800000#32 ∧
  reconstruct 0x3F800000#32 0x7F000000#32 0x3FFFFFFF#32 = 0x7F7FFFFF#32 ∧
  reconstruct 0x3F800000#32 0x00400000#32 0x34000000#32 = 0x00000000#32 ∧
  reconstruct 0x3F800000#32 0x00400000#32 0x34400000#32 = 0x00000001#32 ∧
  reconstruct 0x3F800001#32 0x3F800001#32 0x3F800000#32 = 0x3F800002#32 ∧
  reconstruct 0x3F800001#32 0x3FC00000#32 0x3F800000#32 = 0x3FC00002#32 ∧
  reconstruct 0x40000000#32 0x40000000#32 0x40000000#32 = 0x41000000#32 ∧
  reconstruct 0x7F7FFFFF#32 0x40000000#32 0x3F000000#32 = 0x7F800000#32 ∧
  fmul32 0x7F7FFFFF#32 (fmul32 0x40000000#32 0x3F000000#32) = 0x7F7FFFFF#32

/-- Sign symmetry: with the signed unit -1.0 the result is that of +1.0 with its sign bit flipped,
where that is no NaN (42_reconstruct.md R100, R102; R105 is marked [derived]). -/
def Obligations.ReconstructSignSymmetry : Prop :=
  ∀ ev mv : Word, isNaN (reconstruct 0x3F800000#32 ev mv) = false →
    reconstruct 0xBF800000#32 ev mv = reconstruct 0x3F800000#32 ev mv ^^^ 0x80000000#32

/-- The closed form on the decoded domain: the packed word for a normal exponent, a signed infinity at
255 whatever the mantissa, one rounding to even at 0 (42_reconstruct.md R100, R102; R103 is marked
[derived]). -/
def Obligations.ReconstructOfDecodedTriple : Prop :=
  ∀ g : RawGroup, reconstructGroup (decodeTriple g) =
    if g.exp = 255#8 then g.sign.zeroExtend 32 <<< 31 ||| 0x7F800000#32
    else if g.exp = 0#8 then
      g.sign.zeroExtend 32 <<< 31 ||| halfEven (0x800000#32 + g.mant.zeroExtend 32)
    else g.sign.zeroExtend 32 <<< 31 ||| g.exp.zeroExtend 32 <<< 23 ||| g.mant.zeroExtend 32

/-! ## ROUNDTRIP (43_roundtrip.md) -/

/-- ROUNDTRIP completes in every state: all three groups take the three stages' results, all three
valid bits are set and BUSY cleared; the rest stays (43_roundtrip.md R120). -/
def Obligations.RoundtripCompletes : Prop :=
  ∀ (a b c : Word) (s : State), ∃ t, exec (.roundtrip a b c) s = .next t ∧
    ∃ g d, t.raw = some g ∧ g = extractFields a ∧ t.dec = some d ∧
      d = ⟨signUnit g.sign, expValue g.exp, mantValue g.mant⟩ ∧
      t.val = some (reconstruct d.sunit d.eval d.mval) ∧
      t.rawV = true ∧ t.decV = true ∧ t.valV = true ∧ t.busy = false ∧ t.left = 0 ∧
      s.completeFrame t

/-- 43_roundtrip.md R121, the source's round-trip property: for every normal word A, of either sign,
ROUNDTRIP A gives RES_VALUE = A, bit for bit. -/
def Obligations.NormalsRoundTripExactly : Prop :=
  ∀ (a b c : Word) (s : State), isNormal a = true →
    ∃ t, exec (.roundtrip a b c) s = .next t ∧ t.val = some a

/-- ROUNDTRIP of every word, by its class: itself for a normal, a signed infinity for an infinity or a
NaN, the halved and rounded 1.m for a zero or subnormal; and it gives A back exactly for the normals
and the infinities (43_roundtrip.md R120; the table of R122 is marked [derived]). -/
def Obligations.RoundtripResultByClass : Prop :=
  ∀ (a b c : Word) (s : State), ∃ t, exec (.roundtrip a b c) s = .next t ∧
    t.val = some (roundtripByClass a) ∧
    (t.val = some a ↔ isNormal a = true ∨ isInf a = true)

/-- RES_VALUE of a ROUNDTRIP is never a NaN and never a zero (43_roundtrip.md R120; R123 is marked
[derived]). -/
def Obligations.RoundtripNeverNanNorZero : Prop :=
  ∀ (a b c : Word) (s : State), ∃ t v, exec (.roundtrip a b c) s = .next t ∧ t.val = some v ∧
    isNaN v = false ∧ isZero v = false

/-- Agreement between the operations: what ROUNDTRIP writes is what EXTRACT, DECODE and RECONSTRUCT
write when chained by hand, from whatever states (43_roundtrip.md R120; R124 is marked [derived]). -/
def Obligations.RoundtripAgreesWithChain : Prop :=
  ∀ (a b c : Word) (s s1 s2 s3 : State), ∃ t t1 t2 t3 g d,
    exec (.roundtrip a b c) s = .next t ∧ exec (.extract a b c) s1 = .next t1 ∧
    t1.raw = some g ∧ exec (.decode (packTriple g) b c) s2 = .next t2 ∧
    t2.dec = some d ∧ exec (.reconstruct d.sunit d.eval d.mval) s3 = .next t3 ∧
    t.raw = t1.raw ∧ t.dec = t2.dec ∧ t.val = t3.val

/-! ## The whole machine -/

/-- 10_state.md R22: every value an operation writes is a function of its OP and operands alone: two
completions of one request from any two states write the same groups with the same values. -/
def Obligations.ResultsDependOnRequestOnly : Prop :=
  ∀ (i : Instr) (s s' : State), ∃ t t', exec i s = .next t ∧ exec i s' = .next t' ∧
    (∀ g, rawOf i = some g → t.raw = some g ∧ t'.raw = some g) ∧
    (∀ d, decOf i = some d → t.dec = some d ∧ t'.dec = some d) ∧
    (∀ v, valOf i = some v → t.val = some v ∧ t'.val = some v) ∧
    (rawOf i = none → t.raw = s.raw ∧ t'.raw = s'.raw) ∧
    (decOf i = none → t.dec = s.dec ∧ t'.dec = s'.dec) ∧
    (valOf i = none → t.val = s.val ∧ t'.val = s'.val)

/-- The hidden state never shows: whatever MACC, ITER and UEXP hold, a step answers the same state but
for these three registers (10_state.md R33: no result and no port depends on them). Their values after
an operation are free (log 8): the statement holds for every one. -/
def Obligations.HiddenStateNeverShows : Prop :=
  ∀ (s t : State) (m : BitVec 24) (i : BitVec 5) (u : BitVec 9), step s = .next t →
    ∃ m' i' u', step (s.withHidden m i u) = .next (t.withHidden m' i' u')

/-- The state after reset meets the invariant. -/
def Obligations.ResetMeetsInvariant : Prop := State.reset.Inv

/-- Every step keeps the invariant, from every state that meets it: the valid bits say which groups
hold a value; an operation is in flight exactly while BUSY is 1, and then every group is NOVAL; the
groups hold nothing or exactly the last accepted request's results; the host remembers the request it
had presented, and the A of a ROUNDTRIP whose result stands (10_state.md R24 to R30, 20_memory.md
R45, 60_exceptions.md R144). -/
def Obligations.StepKeepsInvariant : Prop :=
  ∀ s t : State, s.Inv → step s = .next t → t.Inv

/-- What a valid bit promises (20_memory.md R45): while it is 1, its group holds exactly the value the
last accepted request writes there, and that request has completed. -/
def Obligations.ValidGroupIsLastResult : Prop :=
  ∀ s : State, s.Inv →
    (s.rawV = true → s.busy = false ∧ ∃ g, s.raw = some g ∧ rawOf s.latched = some g) ∧
    (s.decV = true → s.busy = false ∧ ∃ d, s.dec = some d ∧ decOf s.latched = some d) ∧
    (s.valV = true → s.busy = false ∧ ∃ v, s.val = some v ∧ valOf s.latched = some v)

/-- Every accepted operation completes (70_reset_and_hazards.md R168): with no reset among the host's
steps nor to come, within as many steps as the host has left and the operation has edges, the
operation in flight has completed, and its groups hold its results, however the host and the clock
interleave (log 2). -/
def Obligations.AcceptedOperationCompletes : Prop :=
  ∀ s : State, s.Inv → s.busy = true → (∀ x ∈ s.rstPlan, x = false) → HostStep.reset ∉ s.script →
    ∃ n t, n ≤ s.script.length + s.left ∧ Sys2Proof.core.run n s = .next t ∧ t.busy = false ∧
      t.raw = rawOf s.latched ∧ t.dec = decOf s.latched ∧ t.val = valOf s.latched

/-- 60_exceptions.md R143: the fault reasons are exactly two, no step refuses, a fault stays recorded
through every step, reset included, a step records at most one, and a faulted state is never a final
state. -/
def Obligations.FaultsStayRecorded : Prop :=
  (∀ f : Fault, (∃ r, f = .readNoValue r) ∨ ∃ a v, f = .hostRoundtripMismatch a v) ∧
  (∀ (s : State) (r : Refusal), step s ≠ .refused r) ∧
  (∀ s t : State, step s = .next t → t.faults = s.faults ∨ ∃ f, t.faults = f :: s.faults) ∧
  (∀ s : State, s.faults ≠ [] → ¬ s.isEnd)

/-- A step answers a fault only where one is recorded and the machine has nothing left to do: no host
move, nothing in flight, no request on the port, no reset to come (60_exceptions.md R143; the model's
choice of when the recorded fault becomes the outcome, log 10). No clock edge records a fault: the
CORE raises nothing (R140). -/
def Obligations.FaultOutcomeOnlyAtTheEnd : Prop :=
  (∀ (s : State) (f : Fault), step s = .fault f →
    f ∈ s.faults ∧ s.hostReady = false ∧ s.clockIdle = true) ∧
  (∀ s t : State, clockEdge s = .next t → t.faults = s.faults)

/-! ## The host (60_exceptions.md, 70_reset_and_hazards.md) -/

/-- 60_exceptions.md R142: a READ of a register whose group's valid bit is 0 records
READ_NO_VALUE(register); STATUS never faults; a READ of a valid group returns its value. Every READ of a
result register while BUSY is 1 faults; so does every one after reset before the first COMPLETE (reset
clears the valid bits, and only a COMPLETE sets one), and one of a group the last operation did not
write. -/
def Obligations.ReadOfInvalidGroupFaults : Prop :=
  (∀ (s : State) (r : Reg) (rest : List HostStep), s.Inv → s.script = .read r :: rest →
    s.hostMoves = true → ∃ t, step s = .next t ∧ t.script = rest ∧
      (s.groupValid r = false →
        t.faults = .readNoValue r :: s.faults ∧ t.reads = ⟨r, none⟩ :: s.reads) ∧
      (s.groupValid r = true → t.faults = s.faults ∧
        ∃ v, s.readReg r = some v ∧ t.reads = ⟨r, some v⟩ :: s.reads)) ∧
  (∀ s : State, s.groupValid .status = true) ∧
  (∀ (s : State) (r : Reg), s.Inv → s.busy = true → r ≠ .status → s.groupValid r = false) ∧
  (∀ r : Reg, r ≠ .status → State.reset.groupValid r = false ∧
    ∀ s : State, s.resetCore.groupValid r = false) ∧
  (∀ (s t : State) (r : Reg), step s = .next t → s.groupValid r = false → t.groupValid r = true →
    s.busy = true ∧ t.busy = false) ∧
  (∀ s : State, s.Inv → (rawOf s.latched = none → s.rawV = false) ∧
    (decOf s.latched = none → s.decV = false) ∧ (valOf s.latched = none → s.valV = false))

/-- What each step of the host does to the CORE, to `rst` and to the ports (70_reset_and_hazards.md R160,
R164, R165, R170, 60_exceptions.md R147, 30_encoding.md R56). WAIT, READ, CHECK and holding a request
change neither the CORE nor the ports; presenting puts exactly its request on the port with `req_valid` 1, driving puts its
request there and leaves `req_valid`, releasing drops `req_valid` and nothing else, and none of these
three touches the CORE. RESET is one reset edge: STATUS 0, every group NOVAL, nothing in flight, the
ports and what the host remembers kept. An issue is ACCEPT of its request. As soon as it is the host's
turn, or the clock has nothing to do, and the host is not halted, RESET, READ, presenting and driving are
always taken, an issue exactly while BUSY and `rst` are 0, holding exactly while no request waits, and
releasing exactly after the ACCEPT. The model's choices in this: whose turn it is, and that the host
moves where the clock has nothing to do (log 2); `reqHold`, and that the host holds or drops
`req_valid` at and after the ACCEPT as it chose (log 13); RESET as one edge inside the host's step, which
takes a level off `rstPlan` (log 15). That presenting, driving, holding and releasing stand beside the
issue of R170, which is ACCEPT in one step, is the model's reading of the rules (log 21). -/
def Obligations.HostStepsOnCoreAndPorts : Prop :=
  (∀ (s : State) (x : HostStep) (rest : List HostStep), s.script = x :: rest → s.hostHalted = false →
    s.turn = .host ∨ s.clockIdle = true →
    ((x = .reset ∨ (∃ r, x = .read r) ∨ (∃ i k, x = .present i k) ∨ ∃ i, x = .drive i) →
      s.hostMoves = true) ∧
    ((∃ i, x = .issue i) → (s.hostMoves = true ↔ s.busy = false ∧ s.rst = false)) ∧
    (x = .hold → (s.hostMoves = true ↔ s.waits = false)) ∧
    (x = .release → (s.hostMoves = true ↔ s.reqHold = .accepted))) ∧
  ∀ (s : State) (x : HostStep) (rest : List HostStep), s.script = x :: rest → s.hostMoves = true →
    ∃ t, step s = .next t ∧ t.script = rest ∧
    ((x = .wait ∨ x = .check ∨ x = .hold ∨ ∃ r, x = .read r) →
      s.sameCore t ∧ t.rstPlan = s.rstPlan ∧ s.sameRequestPort t) ∧
    (∀ i k, x = .present i k → s.sameCore t ∧ t.rstPlan = s.rstPlan ∧ s.sameMemory t ∧
      t.offered = i ∧ t.reqValid = true ∧ t.reqHold = if k then .beyond else .untilAccept) ∧
    (∀ i, x = .drive i → s.sameCore t ∧ t.rstPlan = s.rstPlan ∧ s.sameMemory t ∧
      t.offered = i ∧ t.reqValid = s.reqValid ∧ t.waits = s.reqValid) ∧
    (x = .release → s.sameCore t ∧ t.rstPlan = s.rstPlan ∧ s.sameMemory t ∧
      s.reqHold = .accepted ∧ t.offered = s.offered ∧ t.reqValid = false) ∧
    (x = .reset → t.status = 0#4 ∧ t.allNoval ∧ t.left = 0 ∧ s.sameRequestPort t ∧ s.sameMemory t ∧
      t.rstPlan = s.rstPlan.tail) ∧
    (∀ i, x = .issue i → s.busy = false ∧ s.rst = false ∧ t.latched = i ∧ t.presented = some i ∧
      t.status = 0b0001#4 ∧ t.allNoval ∧ 1 ≤ t.left ∧ t.reqValid = false ∧ t.rstPlan = s.rstPlan.tail)

/-- WAIT holds the host while BUSY is 1; once BUSY is 0 it is taken as soon as it is the host's turn, or
the clock has nothing to do, and changes nothing else (70_reset_and_hazards.md R170). The turns are the
model's free choice (log 2). -/
def Obligations.WaitHoldsHostWhileBusy : Prop :=
  ∀ (s : State) (rest : List HostStep), s.script = .wait :: rest →
    (s.busy = true → s.hostMoves = false) ∧
    (s.busy = false → s.hostHalted = false → s.turn = .host ∨ s.clockIdle = true →
      s.hostMoves = true) ∧
    (s.hostMoves = true → ∃ t, step s = .next t ∧ t.script = rest ∧ s.sameCore t ∧
      t.rstPlan = s.rstPlan ∧ s.sameRequestPort t ∧ s.sameMemory t)

/-- While a request waits on the port no step drops it: after the step a request still waits there, or the
step accepted the one on the port at that edge. Where the host does not move, as it never does while it holds
its request, the waiting request stays as it is, or is the one accepted (70_reset_and_hazards.md R164,
30_encoding.md R56). When a request counts as waiting, and the step that holds it, are the model's
(log 13, log 21). -/
def Obligations.HostWaitsForAccept : Prop :=
  (∀ s t : State, s.waits = true → step s = .next t →
    t.waits = true ∨ s.busy = false ∧ t.busy = true ∧
      (t.latched = s.offered ∨ ∃ i rest, s.script = .issue i :: rest ∧ t.latched = i)) ∧
  (∀ s t : State, s.waits = true → s.hostMoves = false → step s = .next t →
    t.script = s.script ∧ (t.waits = true ∧ t.offered = s.offered ∨
      t.waits = false ∧ t.busy = true ∧ t.latched = s.offered)) ∧
  (∀ (s : State) (rest : List HostStep), s.waits = true → s.script = .hold :: rest →
    s.hostMoves = false)

/-- 60_exceptions.md R144: once a ROUNDTRIP has completed, CHECK compares RES_VALUE bit for bit with the A
presented to the ROUNDTRIP that completed last (log 12). If they differ it records
HOST_ROUNDTRIP_MISMATCH(A, RES_VALUE) and the host takes no further step in any run from there; if
RES_VALUE holds no value it records READ_NO_VALUE; the CORE is not touched. Before a ROUNDTRIP has
completed CHECK has no move; after, it is taken as soon as it is the host's turn, or the clock has
nothing to do, unless the host is halted. Whose turn it is, and that the host moves where the clock has
nothing to do, are the model's choices (log 2). That the A is that of the ROUNDTRIP that completed last,
and that CHECK then stays enabled, are the model's reading (log 12). -/
def Obligations.CheckComparesResultWithOperand : Prop :=
  (∀ s t : State, step s = .next t → t.roundtripA = s.roundtripA ∨
    s.busy = true ∧ t.busy = false ∧ ∃ a b c, s.presented = some (.roundtrip a b c) ∧
      t.roundtripA = some a) ∧
  (∀ (s : State) (a b c : Word), s.Inv → s.rst = false → s.busy = true → s.left ≤ 1 →
    s.hostMoves = false → s.latched = .roundtrip a b c →
    ∃ t, step s = .next t ∧ t.roundtripA = some a) ∧
  (∀ (s : State) (rest : List HostStep), s.script = .check :: rest →
    (s.roundtripA = none → s.hostMoves = false) ∧
    (s.roundtripA ≠ none → s.hostHalted = false → s.turn = .host ∨ s.clockIdle = true →
      s.hostMoves = true)) ∧
  (∀ (s : State) (a : Word) (rest : List HostStep), s.script = .check :: rest →
    s.roundtripA = some a → s.hostMoves = true →
    ∃ t, step s = .next t ∧ t.script = rest ∧ s.sameCore t ∧
      (s.val = none → t.faults = .readNoValue .resValue :: s.faults) ∧
      (s.val = some a → t.faults = s.faults) ∧
      (∀ v, s.val = some v → v ≠ a → t.faults = .hostRoundtripMismatch a v :: s.faults ∧
        ∀ n u, Sys2Proof.core.run n t = .next u → u.hostMoves = false ∧ u.script = rest))

/-- Which inputs pass the CHECK: in a state that meets the invariant, where the last accepted request was
a ROUNDTRIP of A and its RES_VALUE is there, the step of the CHECK records no fault exactly if A is a
normal or an infinity, and else HOST_ROUNDTRIP_MISMATCH(A, RES_VALUE) (43_roundtrip.md R120,
60_exceptions.md R144; the classes of R122 are marked [derived]). -/
def Obligations.CheckPassesForNormalsAndInfinities : Prop :=
  ∀ (s : State) (a b c v : Word) (rest : List HostStep), s.Inv →
    s.presented = some (.roundtrip a b c) → s.val = some v → s.script = .check :: rest →
    s.hostMoves = true → ∃ t, step s = .next t ∧
      (t.faults = s.faults ↔ isNormal a = true ∨ isInf a = true) ∧
      (t.faults ≠ s.faults → t.faults = .hostRoundtripMismatch a v :: s.faults)

/-! ## Notation and platform -/

/-- DECODE.F s, e, m assembles to DECODE of (s << 31) | (e << 23) | m, from which the extractor takes s,
e and m; out of range the assembler refuses the line by name (30_encoding.md R57). -/
def Obligations.DecodeFPacksItsFields : Prop :=
  (∀ s e m : Nat, s ≤ 1 → e ≤ 255 → m ≤ 0x7FFFFF → ∃ a : Word,
    assembleLine (.decodeF s e m) = .ok (requestSteps (.decode a 0#32 0#32)) ∧
    a.toNat = s * 2 ^ 31 + e * 2 ^ 23 + m ∧
    (extractFields a).sign.toNat = s ∧ (extractFields a).exp.toNat = e ∧
    (extractFields a).mant.toNat = m) ∧
  (∀ s e m : Nat, ¬ (s ≤ 1 ∧ e ≤ 255 ∧ m ≤ 0x7FFFFF) →
    assembleLine (.decodeF s e m) = .error .tripleOutOfRange)

/-- DECODE.RAW and RECONSTRUCT.DEC expand to a WAIT, three READs and a request made of the values just
read, presented and held (30_encoding.md R57): with nothing for the clock to do and the group valid, five
moves of the host put DECODE of the packed raw triple, or RECONSTRUCT of the decoded triple, on the port;
with the group not valid the three READs fault, and nothing is presented (log 24). The CORE is the same
throughout: nothing is forwarded (70_reset_and_hazards.md R167). That the host moves where the clock has
nothing to do is the model's choice (log 2), and so is that the request is presented and then held as two
steps (log 21). -/
def Obligations.PseudoInstructionsChainStages : Prop :=
  assembleLine .decodeRaw = .ok
    [.wait, .read .resSign, .read .resExp, .read .resMant, .presentDecodeRead, .hold] ∧
  assembleLine .reconstructDec = .ok
    [.wait, .read .resSunit, .read .resEval, .read .resMval, .presentReconstructRead, .hold] ∧
  (∀ (s : State) (a : Word) (rest : List HostStep), s.script = .presentDecodeRead :: rest →
    s.hostMoves = true → rawTripleRead s.reads = some a →
    ∃ t, step s = .next t ∧ t.script = rest ∧ s.sameCore t ∧ t.waits = true ∧
      t.offered = .decode a 0#32 0#32) ∧
  (∀ (s : State) (d : DecGroup) (rest : List HostStep), s.script = .presentReconstructRead :: rest →
    s.hostMoves = true → decTripleRead s.reads = some d →
    ∃ t, step s = .next t ∧ t.script = rest ∧ s.sameCore t ∧ t.waits = true ∧
      t.offered = .reconstruct d.sunit d.eval d.mval) ∧
  (∀ (s : State) (rest : List HostStep), s.clockIdle = true → s.hostHalted = false →
    s.script =
      .wait :: .read .resSign :: .read .resExp :: .read .resMant :: .presentDecodeRead :: rest →
    (∀ g, s.raw = some g → ∃ t, Sys2Proof.core.run 5 s = .next t ∧ t.script = rest ∧ s.sameCore t ∧
      t.faults = s.faults ∧ t.waits = true ∧ t.offered = .decode (packTriple g) 0#32 0#32) ∧
    (s.raw = none → ∃ t, Sys2Proof.core.run 4 s = .next t ∧ s.sameCore t ∧ t.reqValid = false ∧
      t.hostMoves = false ∧ t.faults = .readNoValue .resMant :: .readNoValue .resExp ::
        .readNoValue .resSign :: s.faults)) ∧
  (∀ (s : State) (rest : List HostStep), s.clockIdle = true → s.hostHalted = false →
    s.script =
      .wait :: .read .resSunit :: .read .resEval :: .read .resMval :: .presentReconstructRead :: rest →
    (∀ d, s.dec = some d → ∃ t, Sys2Proof.core.run 5 s = .next t ∧ t.script = rest ∧ s.sameCore t ∧
      t.faults = s.faults ∧ t.waits = true ∧ t.offered = .reconstruct d.sunit d.eval d.mval) ∧
    (s.dec = none → ∃ t, Sys2Proof.core.run 4 s = .next t ∧ s.sameCore t ∧ t.reqValid = false ∧
      t.hostMoves = false ∧ t.faults = .readNoValue .resMval :: .readNoValue .resEval ::
        .readNoValue .resSunit :: s.faults))

/-- 20_memory.md R48: a step of one instance never changes another instance's state, and there is no
order between two instances: their steps may be exchanged. -/
def Obligations.InstancesAreIndependent : Prop :=
  ∀ (p q : Platform) (k j : Nat), platformStep p k = .next q → j ≠ k →
    q[j]? = p[j]? ∧
    ∀ r, platformStep q j = .next r → ∃ q', platformStep p j = .next q' ∧ platformStep q' k = .next r

/-- The host's storing of a word in its byte memory and reading it back keeps every bit, in either byte
order (40_extract.md R74, 20_memory.md R41). -/
def Obligations.HostBytesKeepEveryBit : Prop :=
  (∀ (o : ByteOrder) (w : Word), bytesWord o (wordBytes o w) = some w) ∧
  ∀ w : Word, hostLoad (hostStore w) = some w
end

