-- ==== Sys2Proof/Laws/Binary32.lean ====
section
/-! SUPPORT. Words packed from three fields and taken apart again (00_scope.md R11), and the significand
before its rounding carry is taken back (R14). -/

namespace Sys2Proof.Machine

variable (s : BitVec 1) (e : BitVec 8) (f : BitVec 23) (w : Word)

/-- Bit `i` of a packed word. -/
theorem packWord_getLsbD (i : Nat) :
    (packWord s e f).getLsbD i =
      if i < 23 then f.getLsbD i else if i < 31 then e.getLsbD (i - 23)
      else if i < 32 then s.getLsbD (i - 31) else false := by
  simp only [packWord, BitVec.truncate_eq_setWidth, BitVec.getLsbD_or, BitVec.getLsbD_shiftLeft,
    BitVec.getLsbD_setWidth]
  by_cases h1 : i < 23
  · simp [h1, show i < 31 by omega, show i < 32 by omega]
  · by_cases h2 : i < 31
    · simp [h1, h2, show i < 32 by omega, show i - 23 < 32 by omega,
        BitVec.getLsbD_of_ge f i (by omega)]
    · by_cases h3 : i < 32
      · simp [h1, h2, h3, show i - 31 < 32 by omega, show i - 23 < 32 by omega,
          BitVec.getLsbD_of_ge f i (by omega), BitVec.getLsbD_of_ge e (i - 23) (by omega)]
      · simp [h1, h2, h3]

@[simp] theorem packWord_signField : signField (packWord s e f) = s := by
  apply BitVec.eq_of_getLsbD_eq
  intro i hi
  rw [signField, BitVec.getLsbD_extractLsb', packWord_getLsbD]
  simp [show i = 0 by omega]

@[simp] theorem packWord_expField : expField (packWord s e f) = e := by
  apply BitVec.eq_of_getLsbD_eq
  intro i hi
  rw [expField, BitVec.getLsbD_extractLsb', packWord_getLsbD]
  simp [hi, show ¬ 23 + i < 23 by omega, show 23 + i < 31 by omega]

@[simp] theorem packWord_fracField : fracField (packWord s e f) = f := by
  apply BitVec.eq_of_getLsbD_eq
  intro i hi
  rw [fracField, BitVec.getLsbD_extractLsb', packWord_getLsbD]
  simp [hi]

/-- A word is packed from its fields. -/
theorem packWord_fields : packWord (signField w) (expField w) (fracField w) = w := by
  apply BitVec.eq_of_getLsbD_eq
  intro i hi
  rw [packWord_getLsbD]
  simp only [signField, expField, fracField, BitVec.getLsbD_extractLsb']
  split_ifs with h1 h2
  · simp [h1]
  · simp [show i - 23 < 8 by omega, show 23 + (i - 23) = i by omega]
  · simp [show i = 31 by omega]

/-- Two words with the same fields are one word. -/
theorem word_ext {v w : Word} (hs : signField v = signField w) (he : expField v = expField w)
    (hf : fracField v = fracField w) : v = w := by
  rw [← packWord_fields v, ← packWord_fields w, hs, he, hf]

/-- Dropping low bits that are all 0 rounds nothing (00_scope.md R14). -/
theorem shiftRoundEven_exact (n j : Nat) : shiftRoundEven (n * 2 ^ j) j = n := by
  have h : (0 : Nat) < 2 ^ (j - 1) := by positivity
  simp only [shiftRoundEven, Nat.shiftRight_eq_div_pow, Nat.mul_mod_left]
  rw [Nat.mul_div_cancel _ (by positivity), if_neg (by omega)]

/-- Rounding an exact significand, however many zero bits stand below it, gives that significand. -/
theorem roundedSig_exact (n j : Nat) : roundedSig (n * 2 ^ j) (j : Int) = n := by
  unfold roundedSig
  by_cases h : j = 0
  · subst h; simp
  · rw [if_neg (by omega), Int.toNat_natCast, shiftRoundEven_exact]

/-- The base-2 logarithm of a number between two powers of 2. -/
theorem log2_eq {n p : Nat} (h1 : 2 ^ p ≤ n) (h2 : n < 2 ^ (p + 1)) : Nat.log2 n = p := by
  have h0 : n ≠ 0 := by have : 0 < 2 ^ p := by positivity
                        omega
  exact (Nat.log2_eq_iff h0).2 ⟨h1, h2⟩

/-- Multiplying by a power of 2 adds its exponent to the logarithm. -/
theorem log2_mul_pow {n : Nat} (h : n ≠ 0) (j : Nat) : Nat.log2 (n * 2 ^ j) = Nat.log2 n + j := by
  obtain ⟨h1, h2⟩ := (Nat.log2_eq_iff h).1 rfl
  refine log2_eq ?_ ?_
  · rw [Nat.pow_add]; exact Nat.mul_le_mul_right _ h1
  · rw [show Nat.log2 n + j + 1 = Nat.log2 n + 1 + j by omega, Nat.pow_add]
    exact Nat.mul_lt_mul_of_pos_right h2 (by positivity)

/-- Where binary32 holds the exact value, rounding gives it: a normal significand n at exponent k, with
j zero bits below it (00_scope.md R14). -/
theorem round32_normal (s : BitVec 1) {n : Nat} {k : Int} (j : Nat) (h1 : 2 ^ 23 ≤ n)
    (h2 : n < 2 ^ 24) (h3 : -149 ≤ k) (h4 : k ≤ 104) :
    round32 s (n * 2 ^ j) (k - j) =
      packWord s (BitVec.ofNat 8 (k + 150).toNat) (BitVec.ofNat 23 (n - 2 ^ 23)) := by
  have h0 : n ≠ 0 := by omega
  have hl : (Nat.log2 (n * 2 ^ j) : Int) = 23 + j := by
    rw [log2_mul_pow h0, log2_eq (p := 23) h1 h2]; simp
  have hs : roundShift (n * 2 ^ j) (k - j) = j := by
    unfold roundShift; rw [hl, if_pos (by omega)]; omega
  rw [round32, if_neg (Nat.mul_ne_zero h0 (by positivity)), hs, roundedSig_exact,
    show k - (j : Int) + j = k by omega]
  simp only [encodeRounded, if_neg (show ¬ n = 2 ^ 24 by omega)]
  rw [if_neg (by omega), if_neg (by omega)]

/-- Where binary32 holds the exact value, rounding gives it: a subnormal significand n at 2^-149, with
j zero bits below it; 0 among them (00_scope.md R14). -/
theorem round32_subnormal (s : BitVec 1) {n : Nat} (j : Nat) (h2 : n < 2 ^ 23) :
    round32 s (n * 2 ^ j) (-149 - j) = packWord s 0#8 (BitVec.ofNat 23 n) := by
  by_cases h0 : n = 0
  · subst h0; simp [round32]
  · have hl : (Nat.log2 (n * 2 ^ j) : Int) < 23 + j := by
      rw [log2_mul_pow h0]
      have := (Nat.log2_lt h0).2 h2
      push_cast; omega
    have hs : roundShift (n * 2 ^ j) (-149 - j) = j := by
      unfold roundShift; rw [if_neg (by omega)]; omega
    rw [round32, if_neg (Nat.mul_ne_zero h0 (by positivity)), hs, roundedSig_exact,
      show -149 - (j : Int) + j = -149 by omega]
    simp only [encodeRounded, if_neg (show ¬ n = 2 ^ 24 by omega)]
    rw [if_pos ⟨trivial, h2⟩]

/-- A finite word's significand with zero bits below it rounds to the word's fields under the given
sign (00_scope.md R13, R14). -/
theorem round32_sig32 (s : BitVec 1) {w : Word} (j : Nat) (h : expField w ≠ 255#8) :
    round32 s ((sig32 w).1 * 2 ^ j) ((sig32 w).2 - j) = packWord s (expField w) (fracField w) := by
  have hf := (fracField w).isLt
  have he := (expField w).isLt
  have h' : (expField w).toNat ≠ 255 := fun c => h (BitVec.eq_of_toNat_eq c)
  unfold sig32
  by_cases h0 : expField w = 0#8
  · rw [if_pos h0]
    exact (round32_subnormal s j hf).trans (by rw [h0]; simp)
  · have h0' : (expField w).toNat ≠ 0 := fun c => h0 (BitVec.eq_of_toNat_eq c)
    rw [if_neg h0]
    dsimp only
    generalize hn : 2 ^ 23 + (fracField w).toNat = n
    generalize hk : ((expField w).toNat : Int) - 150 = k
    rw [round32_normal s j (by omega) (by omega) (by omega) (by omega)]
    have e1 : BitVec.ofNat 8 (k + 150).toNat = expField w := by
      apply BitVec.eq_of_toNat_eq
      rw [BitVec.toNat_ofNat]
      omega
    have e2 : BitVec.ofNat 23 (n - 2 ^ 23) = fracField w := by
      apply BitVec.eq_of_toNat_eq
      rw [BitVec.toNat_ofNat]
      omega
    rw [e1, e2]

end Sys2Proof.Machine
end

