-- ==== Sys2Proof/Laws/Encode.lean ====
section
/-! SUPPORT. The four fields of a bundle (30_encoding.md R50), read back one by one. -/

namespace Sys2Proof

variable (op : BitVec 2) (a b c : Word)

/-- Bit `i` of a bundle, counted from C upwards. -/
theorem bundle_getLsbD (i : Nat) :
    BitVec.getLsbD (w := 98) (op ++ a ++ b ++ c) i =
      if i < 32 then c.getLsbD i else if i < 64 then b.getLsbD (i - 32)
      else if i < 96 then a.getLsbD (i - 64) else op.getLsbD (i - 96) := by
  refine (BitVec.getLsbD_append (x := op ++ a ++ b) (y := c) (i := i)).trans ?_
  rw [BitVec.getLsbD_append (x := op ++ a) (y := b), BitVec.getLsbD_append (x := op) (y := a)]
  have e3 : i - 32 - 32 = i - 64 := by omega
  have e4 : i - 64 - 32 = i - 96 := by omega
  rw [e3, e4]
  split_ifs <;> first | rfl | omega

theorem bundleOp_append : bundleOp (op ++ a ++ b ++ c) = op := by
  apply BitVec.eq_of_getLsbD_eq
  intro i hi
  rw [bundleOp, BitVec.getLsbD_extractLsb', bundle_getLsbD]
  simp [hi, show ¬ 96 + i < 32 by omega, show ¬ 96 + i < 64 by omega]

theorem bundleA_append : bundleA (op ++ a ++ b ++ c) = a := by
  apply BitVec.eq_of_getLsbD_eq
  intro i hi
  rw [bundleA, BitVec.getLsbD_extractLsb', bundle_getLsbD]
  simp [hi, show ¬ 64 + i < 32 by omega, show 64 + i < 96 by omega]

theorem bundleB_append : bundleB (op ++ a ++ b ++ c) = b := by
  apply BitVec.eq_of_getLsbD_eq
  intro i hi
  rw [bundleB, BitVec.getLsbD_extractLsb', bundle_getLsbD]
  simp [hi, show 32 + i < 64 by omega]

theorem bundleC_append : bundleC (op ++ a ++ b ++ c) = c := by
  apply BitVec.eq_of_getLsbD_eq
  intro i hi
  rw [bundleC, BitVec.getLsbD_extractLsb', bundle_getLsbD]
  simp [hi]

/-- The OP and operands of a request made from four fields are those fields (30_encoding.md R51). -/
theorem decodeFields_op : (decodeFields op a b c).op = op ∧ (decodeFields op a b c).a = a ∧
    (decodeFields op a b c).b = b ∧ (decodeFields op a b c).c = c := by
  have h : op = 0#2 ∨ op = 1#2 ∨ op = 2#2 ∨ op = 3#2 := by revert op; decide
  rcases h with rfl | rfl | rfl | rfl <;> exact ⟨rfl, rfl, rfl, rfl⟩

end Sys2Proof
end

