-- ==== Sys2Proof/Laws/State.lean ====
section
/-! SUPPORT. The fields of the state after each update: one lemma per field per update, true by rfl. -/

namespace Sys2Proof.Machine

variable (s : State)

section WriteRawFields
variable (g : RawGroup)
@[simp] theorem State.writeRaw_status : (s.writeRaw g).status = setRawV s.status := rfl
@[simp] theorem State.writeRaw_raw : (s.writeRaw g).raw = some g := rfl
@[simp] theorem State.writeRaw_dec : (s.writeRaw g).dec = s.dec := rfl
@[simp] theorem State.writeRaw_val : (s.writeRaw g).val = s.val := rfl
@[simp] theorem State.writeRaw_opr : (s.writeRaw g).opr = s.opr := rfl
@[simp] theorem State.writeRaw_opa : (s.writeRaw g).opa = s.opa := rfl
@[simp] theorem State.writeRaw_opb : (s.writeRaw g).opb = s.opb := rfl
@[simp] theorem State.writeRaw_opc : (s.writeRaw g).opc = s.opc := rfl
@[simp] theorem State.writeRaw_macc : (s.writeRaw g).macc = s.macc := rfl
@[simp] theorem State.writeRaw_iter : (s.writeRaw g).iter = s.iter := rfl
@[simp] theorem State.writeRaw_uexp : (s.writeRaw g).uexp = s.uexp := rfl
@[simp] theorem State.writeRaw_left : (s.writeRaw g).left = s.left := rfl
@[simp] theorem State.writeRaw_rstPlan : (s.writeRaw g).rstPlan = s.rstPlan := rfl
@[simp] theorem State.writeRaw_reqValid : (s.writeRaw g).reqValid = s.reqValid := rfl
@[simp] theorem State.writeRaw_reqOp : (s.writeRaw g).reqOp = s.reqOp := rfl
@[simp] theorem State.writeRaw_reqA : (s.writeRaw g).reqA = s.reqA := rfl
@[simp] theorem State.writeRaw_reqB : (s.writeRaw g).reqB = s.reqB := rfl
@[simp] theorem State.writeRaw_reqC : (s.writeRaw g).reqC = s.reqC := rfl
@[simp] theorem State.writeRaw_reqHold : (s.writeRaw g).reqHold = s.reqHold := rfl
@[simp] theorem State.writeRaw_script : (s.writeRaw g).script = s.script := rfl
@[simp] theorem State.writeRaw_presented : (s.writeRaw g).presented = s.presented := rfl
@[simp] theorem State.writeRaw_roundtripA : (s.writeRaw g).roundtripA = s.roundtripA := rfl
@[simp] theorem State.writeRaw_reads : (s.writeRaw g).reads = s.reads := rfl
@[simp] theorem State.writeRaw_faults : (s.writeRaw g).faults = s.faults := rfl
@[simp] theorem State.writeRaw_fresh : (s.writeRaw g).fresh = s.fresh := rfl
@[simp] theorem State.writeRaw_stream : (s.writeRaw g).stream = s.stream := rfl
@[simp] theorem State.writeRaw_turn : (s.writeRaw g).turn = s.turn := rfl
end WriteRawFields

section WriteDecFields
variable (g : DecGroup)
@[simp] theorem State.writeDec_status : (s.writeDec g).status = setDecV s.status := rfl
@[simp] theorem State.writeDec_raw : (s.writeDec g).raw = s.raw := rfl
@[simp] theorem State.writeDec_dec : (s.writeDec g).dec = some g := rfl
@[simp] theorem State.writeDec_val : (s.writeDec g).val = s.val := rfl
@[simp] theorem State.writeDec_opr : (s.writeDec g).opr = s.opr := rfl
@[simp] theorem State.writeDec_opa : (s.writeDec g).opa = s.opa := rfl
@[simp] theorem State.writeDec_opb : (s.writeDec g).opb = s.opb := rfl
@[simp] theorem State.writeDec_opc : (s.writeDec g).opc = s.opc := rfl
@[simp] theorem State.writeDec_macc : (s.writeDec g).macc = s.macc := rfl
@[simp] theorem State.writeDec_iter : (s.writeDec g).iter = s.iter := rfl
@[simp] theorem State.writeDec_uexp : (s.writeDec g).uexp = s.uexp := rfl
@[simp] theorem State.writeDec_left : (s.writeDec g).left = s.left := rfl
@[simp] theorem State.writeDec_rstPlan : (s.writeDec g).rstPlan = s.rstPlan := rfl
@[simp] theorem State.writeDec_reqValid : (s.writeDec g).reqValid = s.reqValid := rfl
@[simp] theorem State.writeDec_reqOp : (s.writeDec g).reqOp = s.reqOp := rfl
@[simp] theorem State.writeDec_reqA : (s.writeDec g).reqA = s.reqA := rfl
@[simp] theorem State.writeDec_reqB : (s.writeDec g).reqB = s.reqB := rfl
@[simp] theorem State.writeDec_reqC : (s.writeDec g).reqC = s.reqC := rfl
@[simp] theorem State.writeDec_reqHold : (s.writeDec g).reqHold = s.reqHold := rfl
@[simp] theorem State.writeDec_script : (s.writeDec g).script = s.script := rfl
@[simp] theorem State.writeDec_presented : (s.writeDec g).presented = s.presented := rfl
@[simp] theorem State.writeDec_roundtripA : (s.writeDec g).roundtripA = s.roundtripA := rfl
@[simp] theorem State.writeDec_reads : (s.writeDec g).reads = s.reads := rfl
@[simp] theorem State.writeDec_faults : (s.writeDec g).faults = s.faults := rfl
@[simp] theorem State.writeDec_fresh : (s.writeDec g).fresh = s.fresh := rfl
@[simp] theorem State.writeDec_stream : (s.writeDec g).stream = s.stream := rfl
@[simp] theorem State.writeDec_turn : (s.writeDec g).turn = s.turn := rfl
end WriteDecFields

section WriteValFields
variable (v : Word)
@[simp] theorem State.writeVal_status : (s.writeVal v).status = setValV s.status := rfl
@[simp] theorem State.writeVal_raw : (s.writeVal v).raw = s.raw := rfl
@[simp] theorem State.writeVal_dec : (s.writeVal v).dec = s.dec := rfl
@[simp] theorem State.writeVal_val : (s.writeVal v).val = some v := rfl
@[simp] theorem State.writeVal_opr : (s.writeVal v).opr = s.opr := rfl
@[simp] theorem State.writeVal_opa : (s.writeVal v).opa = s.opa := rfl
@[simp] theorem State.writeVal_opb : (s.writeVal v).opb = s.opb := rfl
@[simp] theorem State.writeVal_opc : (s.writeVal v).opc = s.opc := rfl
@[simp] theorem State.writeVal_macc : (s.writeVal v).macc = s.macc := rfl
@[simp] theorem State.writeVal_iter : (s.writeVal v).iter = s.iter := rfl
@[simp] theorem State.writeVal_uexp : (s.writeVal v).uexp = s.uexp := rfl
@[simp] theorem State.writeVal_left : (s.writeVal v).left = s.left := rfl
@[simp] theorem State.writeVal_rstPlan : (s.writeVal v).rstPlan = s.rstPlan := rfl
@[simp] theorem State.writeVal_reqValid : (s.writeVal v).reqValid = s.reqValid := rfl
@[simp] theorem State.writeVal_reqOp : (s.writeVal v).reqOp = s.reqOp := rfl
@[simp] theorem State.writeVal_reqA : (s.writeVal v).reqA = s.reqA := rfl
@[simp] theorem State.writeVal_reqB : (s.writeVal v).reqB = s.reqB := rfl
@[simp] theorem State.writeVal_reqC : (s.writeVal v).reqC = s.reqC := rfl
@[simp] theorem State.writeVal_reqHold : (s.writeVal v).reqHold = s.reqHold := rfl
@[simp] theorem State.writeVal_script : (s.writeVal v).script = s.script := rfl
@[simp] theorem State.writeVal_presented : (s.writeVal v).presented = s.presented := rfl
@[simp] theorem State.writeVal_roundtripA : (s.writeVal v).roundtripA = s.roundtripA := rfl
@[simp] theorem State.writeVal_reads : (s.writeVal v).reads = s.reads := rfl
@[simp] theorem State.writeVal_faults : (s.writeVal v).faults = s.faults := rfl
@[simp] theorem State.writeVal_fresh : (s.writeVal v).fresh = s.fresh := rfl
@[simp] theorem State.writeVal_stream : (s.writeVal v).stream = s.stream := rfl
@[simp] theorem State.writeVal_turn : (s.writeVal v).turn = s.turn := rfl
end WriteValFields

section StirHiddenFields
@[simp] theorem State.stirHidden_status : (s.stirHidden).status = s.status := rfl
@[simp] theorem State.stirHidden_raw : (s.stirHidden).raw = s.raw := rfl
@[simp] theorem State.stirHidden_dec : (s.stirHidden).dec = s.dec := rfl
@[simp] theorem State.stirHidden_val : (s.stirHidden).val = s.val := rfl
@[simp] theorem State.stirHidden_opr : (s.stirHidden).opr = s.opr := rfl
@[simp] theorem State.stirHidden_opa : (s.stirHidden).opa = s.opa := rfl
@[simp] theorem State.stirHidden_opb : (s.stirHidden).opb = s.opb := rfl
@[simp] theorem State.stirHidden_opc : (s.stirHidden).opc = s.opc := rfl
@[simp] theorem State.stirHidden_macc : (s.stirHidden).macc = Config.unspecified 24 s.stream s.fresh := rfl
@[simp] theorem State.stirHidden_iter : (s.stirHidden).iter = Config.unspecified 5 s.stream (s.fresh + 1) := rfl
@[simp] theorem State.stirHidden_uexp : (s.stirHidden).uexp = Config.unspecified 9 s.stream (s.fresh + 2) := rfl
@[simp] theorem State.stirHidden_left : (s.stirHidden).left = s.left := rfl
@[simp] theorem State.stirHidden_rstPlan : (s.stirHidden).rstPlan = s.rstPlan := rfl
@[simp] theorem State.stirHidden_reqValid : (s.stirHidden).reqValid = s.reqValid := rfl
@[simp] theorem State.stirHidden_reqOp : (s.stirHidden).reqOp = s.reqOp := rfl
@[simp] theorem State.stirHidden_reqA : (s.stirHidden).reqA = s.reqA := rfl
@[simp] theorem State.stirHidden_reqB : (s.stirHidden).reqB = s.reqB := rfl
@[simp] theorem State.stirHidden_reqC : (s.stirHidden).reqC = s.reqC := rfl
@[simp] theorem State.stirHidden_reqHold : (s.stirHidden).reqHold = s.reqHold := rfl
@[simp] theorem State.stirHidden_script : (s.stirHidden).script = s.script := rfl
@[simp] theorem State.stirHidden_presented : (s.stirHidden).presented = s.presented := rfl
@[simp] theorem State.stirHidden_roundtripA : (s.stirHidden).roundtripA = s.roundtripA := rfl
@[simp] theorem State.stirHidden_reads : (s.stirHidden).reads = s.reads := rfl
@[simp] theorem State.stirHidden_faults : (s.stirHidden).faults = s.faults := rfl
@[simp] theorem State.stirHidden_fresh : (s.stirHidden).fresh = s.fresh + 3 := rfl
@[simp] theorem State.stirHidden_stream : (s.stirHidden).stream = s.stream := rfl
@[simp] theorem State.stirHidden_turn : (s.stirHidden).turn = s.turn := rfl
end StirHiddenFields

section FinishFields
@[simp] theorem State.finish_status : (s.finish).status = clearBusy s.status := rfl
@[simp] theorem State.finish_raw : (s.finish).raw = s.raw := rfl
@[simp] theorem State.finish_dec : (s.finish).dec = s.dec := rfl
@[simp] theorem State.finish_val : (s.finish).val = s.val := rfl
@[simp] theorem State.finish_opr : (s.finish).opr = s.opr := rfl
@[simp] theorem State.finish_opa : (s.finish).opa = s.opa := rfl
@[simp] theorem State.finish_opb : (s.finish).opb = s.opb := rfl
@[simp] theorem State.finish_opc : (s.finish).opc = s.opc := rfl
@[simp] theorem State.finish_macc : (s.finish).macc = Config.unspecified 24 s.stream s.fresh := rfl
@[simp] theorem State.finish_iter : (s.finish).iter = Config.unspecified 5 s.stream (s.fresh + 1) := rfl
@[simp] theorem State.finish_uexp : (s.finish).uexp = Config.unspecified 9 s.stream (s.fresh + 2) := rfl
@[simp] theorem State.finish_left : (s.finish).left = 0 := rfl
@[simp] theorem State.finish_rstPlan : (s.finish).rstPlan = s.rstPlan := rfl
@[simp] theorem State.finish_reqValid : (s.finish).reqValid = s.reqValid := rfl
@[simp] theorem State.finish_reqOp : (s.finish).reqOp = s.reqOp := rfl
@[simp] theorem State.finish_reqA : (s.finish).reqA = s.reqA := rfl
@[simp] theorem State.finish_reqB : (s.finish).reqB = s.reqB := rfl
@[simp] theorem State.finish_reqC : (s.finish).reqC = s.reqC := rfl
@[simp] theorem State.finish_reqHold : (s.finish).reqHold = s.reqHold := rfl
@[simp] theorem State.finish_script : (s.finish).script = s.script := rfl
@[simp] theorem State.finish_presented : (s.finish).presented = s.presented := rfl
@[simp] theorem State.finish_roundtripA : (s.finish).roundtripA = s.roundtripA := rfl
@[simp] theorem State.finish_reads : (s.finish).reads = s.reads := rfl
@[simp] theorem State.finish_faults : (s.finish).faults = s.faults := rfl
@[simp] theorem State.finish_fresh : (s.finish).fresh = s.fresh + 3 := rfl
@[simp] theorem State.finish_stream : (s.finish).stream = s.stream := rfl
@[simp] theorem State.finish_turn : (s.finish).turn = s.turn := rfl
end FinishFields

section LatchFields
variable (op : BitVec 2) (a b c : Word) (n : Nat)
@[simp] theorem State.latch_status : (s.latch op a b c n).status = statusAccepted := rfl
@[simp] theorem State.latch_raw : (s.latch op a b c n).raw = none := rfl
@[simp] theorem State.latch_dec : (s.latch op a b c n).dec = none := rfl
@[simp] theorem State.latch_val : (s.latch op a b c n).val = none := rfl
@[simp] theorem State.latch_opr : (s.latch op a b c n).opr = op := rfl
@[simp] theorem State.latch_opa : (s.latch op a b c n).opa = a := rfl
@[simp] theorem State.latch_opb : (s.latch op a b c n).opb = b := rfl
@[simp] theorem State.latch_opc : (s.latch op a b c n).opc = c := rfl
@[simp] theorem State.latch_macc : (s.latch op a b c n).macc = s.macc := rfl
@[simp] theorem State.latch_iter : (s.latch op a b c n).iter = s.iter := rfl
@[simp] theorem State.latch_uexp : (s.latch op a b c n).uexp = s.uexp := rfl
@[simp] theorem State.latch_left : (s.latch op a b c n).left = n := rfl
@[simp] theorem State.latch_rstPlan : (s.latch op a b c n).rstPlan = s.rstPlan := rfl
@[simp] theorem State.latch_reqValid : (s.latch op a b c n).reqValid = s.reqValid := rfl
@[simp] theorem State.latch_reqOp : (s.latch op a b c n).reqOp = s.reqOp := rfl
@[simp] theorem State.latch_reqA : (s.latch op a b c n).reqA = s.reqA := rfl
@[simp] theorem State.latch_reqB : (s.latch op a b c n).reqB = s.reqB := rfl
@[simp] theorem State.latch_reqC : (s.latch op a b c n).reqC = s.reqC := rfl
@[simp] theorem State.latch_reqHold : (s.latch op a b c n).reqHold = s.reqHold := rfl
@[simp] theorem State.latch_script : (s.latch op a b c n).script = s.script := rfl
@[simp] theorem State.latch_presented : (s.latch op a b c n).presented = s.presented := rfl
@[simp] theorem State.latch_roundtripA : (s.latch op a b c n).roundtripA = s.roundtripA := rfl
@[simp] theorem State.latch_reads : (s.latch op a b c n).reads = s.reads := rfl
@[simp] theorem State.latch_faults : (s.latch op a b c n).faults = s.faults := rfl
@[simp] theorem State.latch_fresh : (s.latch op a b c n).fresh = s.fresh := rfl
@[simp] theorem State.latch_stream : (s.latch op a b c n).stream = s.stream := rfl
@[simp] theorem State.latch_turn : (s.latch op a b c n).turn = s.turn := rfl
end LatchFields

section AcceptFields
@[simp] theorem State.accept_status : (s.accept).status = statusAccepted := rfl
@[simp] theorem State.accept_raw : (s.accept).raw = none := rfl
@[simp] theorem State.accept_dec : (s.accept).dec = none := rfl
@[simp] theorem State.accept_val : (s.accept).val = none := rfl
@[simp] theorem State.accept_opr : (s.accept).opr = s.reqOp := rfl
@[simp] theorem State.accept_opa : (s.accept).opa = s.reqA := rfl
@[simp] theorem State.accept_opb : (s.accept).opb = s.reqB := rfl
@[simp] theorem State.accept_opc : (s.accept).opc = s.reqC := rfl
@[simp] theorem State.accept_macc : (s.accept).macc = Config.unspecified 24 s.stream s.fresh := rfl
@[simp] theorem State.accept_iter : (s.accept).iter = Config.unspecified 5 s.stream (s.fresh + 1) := rfl
@[simp] theorem State.accept_uexp : (s.accept).uexp = Config.unspecified 9 s.stream (s.fresh + 2) := rfl
@[simp] theorem State.accept_left : (s.accept).left = Config.latency s.reqOp s.stream s.fresh := rfl
@[simp] theorem State.accept_rstPlan : (s.accept).rstPlan = s.rstPlan := rfl
@[simp] theorem State.accept_reqValid : (s.accept).reqValid = validAfterAccept s.reqHold := rfl
@[simp] theorem State.accept_reqOp : (s.accept).reqOp = s.reqOp := rfl
@[simp] theorem State.accept_reqA : (s.accept).reqA = s.reqA := rfl
@[simp] theorem State.accept_reqB : (s.accept).reqB = s.reqB := rfl
@[simp] theorem State.accept_reqC : (s.accept).reqC = s.reqC := rfl
@[simp] theorem State.accept_reqHold : (s.accept).reqHold = holdAfterAccept s.reqHold := rfl
@[simp] theorem State.accept_script : (s.accept).script = s.script := rfl
@[simp] theorem State.accept_presented : (s.accept).presented = some s.offered := rfl
@[simp] theorem State.accept_roundtripA : (s.accept).roundtripA = s.roundtripA := rfl
@[simp] theorem State.accept_reads : (s.accept).reads = s.reads := rfl
@[simp] theorem State.accept_faults : (s.accept).faults = s.faults := rfl
@[simp] theorem State.accept_fresh : (s.accept).fresh = s.fresh + 3 := rfl
@[simp] theorem State.accept_stream : (s.accept).stream = s.stream := rfl
@[simp] theorem State.accept_turn : (s.accept).turn = s.turn := rfl
end AcceptFields

section ResetCoreFields
@[simp] theorem State.resetCore_status : (s.resetCore).status = statusReset := rfl
@[simp] theorem State.resetCore_raw : (s.resetCore).raw = none := rfl
@[simp] theorem State.resetCore_dec : (s.resetCore).dec = none := rfl
@[simp] theorem State.resetCore_val : (s.resetCore).val = none := rfl
@[simp] theorem State.resetCore_opr : (s.resetCore).opr = Config.unspecified 2 s.stream s.fresh := rfl
@[simp] theorem State.resetCore_opa : (s.resetCore).opa = Config.unspecified 32 s.stream (s.fresh + 1) := rfl
@[simp] theorem State.resetCore_opb : (s.resetCore).opb = Config.unspecified 32 s.stream (s.fresh + 2) := rfl
@[simp] theorem State.resetCore_opc : (s.resetCore).opc = Config.unspecified 32 s.stream (s.fresh + 3) := rfl
@[simp] theorem State.resetCore_macc : (s.resetCore).macc = Config.unspecified 24 s.stream (s.fresh + 4) := rfl
@[simp] theorem State.resetCore_iter : (s.resetCore).iter = Config.unspecified 5 s.stream (s.fresh + 5) := rfl
@[simp] theorem State.resetCore_uexp : (s.resetCore).uexp = Config.unspecified 9 s.stream (s.fresh + 6) := rfl
@[simp] theorem State.resetCore_left : (s.resetCore).left = 0 := rfl
@[simp] theorem State.resetCore_rstPlan : (s.resetCore).rstPlan = s.rstPlan := rfl
@[simp] theorem State.resetCore_reqValid : (s.resetCore).reqValid = s.reqValid := rfl
@[simp] theorem State.resetCore_reqOp : (s.resetCore).reqOp = s.reqOp := rfl
@[simp] theorem State.resetCore_reqA : (s.resetCore).reqA = s.reqA := rfl
@[simp] theorem State.resetCore_reqB : (s.resetCore).reqB = s.reqB := rfl
@[simp] theorem State.resetCore_reqC : (s.resetCore).reqC = s.reqC := rfl
@[simp] theorem State.resetCore_reqHold : (s.resetCore).reqHold = s.reqHold := rfl
@[simp] theorem State.resetCore_script : (s.resetCore).script = s.script := rfl
@[simp] theorem State.resetCore_presented : (s.resetCore).presented = s.presented := rfl
@[simp] theorem State.resetCore_roundtripA : (s.resetCore).roundtripA = s.roundtripA := rfl
@[simp] theorem State.resetCore_reads : (s.resetCore).reads = s.reads := rfl
@[simp] theorem State.resetCore_faults : (s.resetCore).faults = s.faults := rfl
@[simp] theorem State.resetCore_fresh : (s.resetCore).fresh = s.fresh + 7 := rfl
@[simp] theorem State.resetCore_stream : (s.resetCore).stream = s.stream := rfl
@[simp] theorem State.resetCore_turn : (s.resetCore).turn = s.turn := rfl
end ResetCoreFields

section PassEdgeFields
@[simp] theorem State.passEdge_status : (s.passEdge).status = s.status := rfl
@[simp] theorem State.passEdge_raw : (s.passEdge).raw = s.raw := rfl
@[simp] theorem State.passEdge_dec : (s.passEdge).dec = s.dec := rfl
@[simp] theorem State.passEdge_val : (s.passEdge).val = s.val := rfl
@[simp] theorem State.passEdge_opr : (s.passEdge).opr = s.opr := rfl
@[simp] theorem State.passEdge_opa : (s.passEdge).opa = s.opa := rfl
@[simp] theorem State.passEdge_opb : (s.passEdge).opb = s.opb := rfl
@[simp] theorem State.passEdge_opc : (s.passEdge).opc = s.opc := rfl
@[simp] theorem State.passEdge_macc : (s.passEdge).macc = s.macc := rfl
@[simp] theorem State.passEdge_iter : (s.passEdge).iter = s.iter := rfl
@[simp] theorem State.passEdge_uexp : (s.passEdge).uexp = s.uexp := rfl
@[simp] theorem State.passEdge_left : (s.passEdge).left = s.left := rfl
@[simp] theorem State.passEdge_rstPlan : (s.passEdge).rstPlan = s.rstPlan.tail := rfl
@[simp] theorem State.passEdge_reqValid : (s.passEdge).reqValid = s.reqValid := rfl
@[simp] theorem State.passEdge_reqOp : (s.passEdge).reqOp = s.reqOp := rfl
@[simp] theorem State.passEdge_reqA : (s.passEdge).reqA = s.reqA := rfl
@[simp] theorem State.passEdge_reqB : (s.passEdge).reqB = s.reqB := rfl
@[simp] theorem State.passEdge_reqC : (s.passEdge).reqC = s.reqC := rfl
@[simp] theorem State.passEdge_reqHold : (s.passEdge).reqHold = s.reqHold := rfl
@[simp] theorem State.passEdge_script : (s.passEdge).script = s.script := rfl
@[simp] theorem State.passEdge_presented : (s.passEdge).presented = s.presented := rfl
@[simp] theorem State.passEdge_roundtripA : (s.passEdge).roundtripA = s.roundtripA := rfl
@[simp] theorem State.passEdge_reads : (s.passEdge).reads = s.reads := rfl
@[simp] theorem State.passEdge_faults : (s.passEdge).faults = s.faults := rfl
@[simp] theorem State.passEdge_fresh : (s.passEdge).fresh = s.fresh := rfl
@[simp] theorem State.passEdge_stream : (s.passEdge).stream = s.stream := rfl
@[simp] theorem State.passEdge_turn : (s.passEdge).turn = s.turn := rfl
end PassEdgeFields

section HoldRstLowFields
@[simp] theorem State.holdRstLow_status : (s.holdRstLow).status = s.status := rfl
@[simp] theorem State.holdRstLow_raw : (s.holdRstLow).raw = s.raw := rfl
@[simp] theorem State.holdRstLow_dec : (s.holdRstLow).dec = s.dec := rfl
@[simp] theorem State.holdRstLow_val : (s.holdRstLow).val = s.val := rfl
@[simp] theorem State.holdRstLow_opr : (s.holdRstLow).opr = s.opr := rfl
@[simp] theorem State.holdRstLow_opa : (s.holdRstLow).opa = s.opa := rfl
@[simp] theorem State.holdRstLow_opb : (s.holdRstLow).opb = s.opb := rfl
@[simp] theorem State.holdRstLow_opc : (s.holdRstLow).opc = s.opc := rfl
@[simp] theorem State.holdRstLow_macc : (s.holdRstLow).macc = s.macc := rfl
@[simp] theorem State.holdRstLow_iter : (s.holdRstLow).iter = s.iter := rfl
@[simp] theorem State.holdRstLow_uexp : (s.holdRstLow).uexp = s.uexp := rfl
@[simp] theorem State.holdRstLow_left : (s.holdRstLow).left = s.left := rfl
@[simp] theorem State.holdRstLow_rstPlan : (s.holdRstLow).rstPlan = lowNext s.rstPlan := rfl
@[simp] theorem State.holdRstLow_reqValid : (s.holdRstLow).reqValid = s.reqValid := rfl
@[simp] theorem State.holdRstLow_reqOp : (s.holdRstLow).reqOp = s.reqOp := rfl
@[simp] theorem State.holdRstLow_reqA : (s.holdRstLow).reqA = s.reqA := rfl
@[simp] theorem State.holdRstLow_reqB : (s.holdRstLow).reqB = s.reqB := rfl
@[simp] theorem State.holdRstLow_reqC : (s.holdRstLow).reqC = s.reqC := rfl
@[simp] theorem State.holdRstLow_reqHold : (s.holdRstLow).reqHold = s.reqHold := rfl
@[simp] theorem State.holdRstLow_script : (s.holdRstLow).script = s.script := rfl
@[simp] theorem State.holdRstLow_presented : (s.holdRstLow).presented = s.presented := rfl
@[simp] theorem State.holdRstLow_roundtripA : (s.holdRstLow).roundtripA = s.roundtripA := rfl
@[simp] theorem State.holdRstLow_reads : (s.holdRstLow).reads = s.reads := rfl
@[simp] theorem State.holdRstLow_faults : (s.holdRstLow).faults = s.faults := rfl
@[simp] theorem State.holdRstLow_fresh : (s.holdRstLow).fresh = s.fresh := rfl
@[simp] theorem State.holdRstLow_stream : (s.holdRstLow).stream = s.stream := rfl
@[simp] theorem State.holdRstLow_turn : (s.holdRstLow).turn = s.turn := rfl
end HoldRstLowFields

section CountDownFields
@[simp] theorem State.countDown_status : (s.countDown).status = s.status := rfl
@[simp] theorem State.countDown_raw : (s.countDown).raw = s.raw := rfl
@[simp] theorem State.countDown_dec : (s.countDown).dec = s.dec := rfl
@[simp] theorem State.countDown_val : (s.countDown).val = s.val := rfl
@[simp] theorem State.countDown_opr : (s.countDown).opr = s.opr := rfl
@[simp] theorem State.countDown_opa : (s.countDown).opa = s.opa := rfl
@[simp] theorem State.countDown_opb : (s.countDown).opb = s.opb := rfl
@[simp] theorem State.countDown_opc : (s.countDown).opc = s.opc := rfl
@[simp] theorem State.countDown_macc : (s.countDown).macc = Config.unspecified 24 s.stream s.fresh := rfl
@[simp] theorem State.countDown_iter : (s.countDown).iter = Config.unspecified 5 s.stream (s.fresh + 1) := rfl
@[simp] theorem State.countDown_uexp : (s.countDown).uexp = Config.unspecified 9 s.stream (s.fresh + 2) := rfl
@[simp] theorem State.countDown_left : (s.countDown).left = s.left - 1 := rfl
@[simp] theorem State.countDown_rstPlan : (s.countDown).rstPlan = s.rstPlan := rfl
@[simp] theorem State.countDown_reqValid : (s.countDown).reqValid = s.reqValid := rfl
@[simp] theorem State.countDown_reqOp : (s.countDown).reqOp = s.reqOp := rfl
@[simp] theorem State.countDown_reqA : (s.countDown).reqA = s.reqA := rfl
@[simp] theorem State.countDown_reqB : (s.countDown).reqB = s.reqB := rfl
@[simp] theorem State.countDown_reqC : (s.countDown).reqC = s.reqC := rfl
@[simp] theorem State.countDown_reqHold : (s.countDown).reqHold = s.reqHold := rfl
@[simp] theorem State.countDown_script : (s.countDown).script = s.script := rfl
@[simp] theorem State.countDown_presented : (s.countDown).presented = s.presented := rfl
@[simp] theorem State.countDown_roundtripA : (s.countDown).roundtripA = s.roundtripA := rfl
@[simp] theorem State.countDown_reads : (s.countDown).reads = s.reads := rfl
@[simp] theorem State.countDown_faults : (s.countDown).faults = s.faults := rfl
@[simp] theorem State.countDown_fresh : (s.countDown).fresh = s.fresh + 3 := rfl
@[simp] theorem State.countDown_stream : (s.countDown).stream = s.stream := rfl
@[simp] theorem State.countDown_turn : (s.countDown).turn = s.turn := rfl
end CountDownFields

section DrawTurnFields
@[simp] theorem State.drawTurn_status : (s.drawTurn).status = s.status := rfl
@[simp] theorem State.drawTurn_raw : (s.drawTurn).raw = s.raw := rfl
@[simp] theorem State.drawTurn_dec : (s.drawTurn).dec = s.dec := rfl
@[simp] theorem State.drawTurn_val : (s.drawTurn).val = s.val := rfl
@[simp] theorem State.drawTurn_opr : (s.drawTurn).opr = s.opr := rfl
@[simp] theorem State.drawTurn_opa : (s.drawTurn).opa = s.opa := rfl
@[simp] theorem State.drawTurn_opb : (s.drawTurn).opb = s.opb := rfl
@[simp] theorem State.drawTurn_opc : (s.drawTurn).opc = s.opc := rfl
@[simp] theorem State.drawTurn_macc : (s.drawTurn).macc = s.macc := rfl
@[simp] theorem State.drawTurn_iter : (s.drawTurn).iter = s.iter := rfl
@[simp] theorem State.drawTurn_uexp : (s.drawTurn).uexp = s.uexp := rfl
@[simp] theorem State.drawTurn_left : (s.drawTurn).left = s.left := rfl
@[simp] theorem State.drawTurn_rstPlan : (s.drawTurn).rstPlan = s.rstPlan := rfl
@[simp] theorem State.drawTurn_reqValid : (s.drawTurn).reqValid = s.reqValid := rfl
@[simp] theorem State.drawTurn_reqOp : (s.drawTurn).reqOp = s.reqOp := rfl
@[simp] theorem State.drawTurn_reqA : (s.drawTurn).reqA = s.reqA := rfl
@[simp] theorem State.drawTurn_reqB : (s.drawTurn).reqB = s.reqB := rfl
@[simp] theorem State.drawTurn_reqC : (s.drawTurn).reqC = s.reqC := rfl
@[simp] theorem State.drawTurn_reqHold : (s.drawTurn).reqHold = s.reqHold := rfl
@[simp] theorem State.drawTurn_script : (s.drawTurn).script = s.script := rfl
@[simp] theorem State.drawTurn_presented : (s.drawTurn).presented = s.presented := rfl
@[simp] theorem State.drawTurn_roundtripA : (s.drawTurn).roundtripA = s.roundtripA := rfl
@[simp] theorem State.drawTurn_reads : (s.drawTurn).reads = s.reads := rfl
@[simp] theorem State.drawTurn_faults : (s.drawTurn).faults = s.faults := rfl
@[simp] theorem State.drawTurn_stream : (s.drawTurn).stream = s.stream := rfl
end DrawTurnFields

section NoteCompletedFields
@[simp] theorem State.noteCompleted_status : (s.noteCompleted).status = s.status := rfl
@[simp] theorem State.noteCompleted_raw : (s.noteCompleted).raw = s.raw := rfl
@[simp] theorem State.noteCompleted_dec : (s.noteCompleted).dec = s.dec := rfl
@[simp] theorem State.noteCompleted_val : (s.noteCompleted).val = s.val := rfl
@[simp] theorem State.noteCompleted_opr : (s.noteCompleted).opr = s.opr := rfl
@[simp] theorem State.noteCompleted_opa : (s.noteCompleted).opa = s.opa := rfl
@[simp] theorem State.noteCompleted_opb : (s.noteCompleted).opb = s.opb := rfl
@[simp] theorem State.noteCompleted_opc : (s.noteCompleted).opc = s.opc := rfl
@[simp] theorem State.noteCompleted_macc : (s.noteCompleted).macc = s.macc := rfl
@[simp] theorem State.noteCompleted_iter : (s.noteCompleted).iter = s.iter := rfl
@[simp] theorem State.noteCompleted_uexp : (s.noteCompleted).uexp = s.uexp := rfl
@[simp] theorem State.noteCompleted_left : (s.noteCompleted).left = s.left := rfl
@[simp] theorem State.noteCompleted_rstPlan : (s.noteCompleted).rstPlan = s.rstPlan := rfl
@[simp] theorem State.noteCompleted_reqValid : (s.noteCompleted).reqValid = s.reqValid := rfl
@[simp] theorem State.noteCompleted_reqOp : (s.noteCompleted).reqOp = s.reqOp := rfl
@[simp] theorem State.noteCompleted_reqA : (s.noteCompleted).reqA = s.reqA := rfl
@[simp] theorem State.noteCompleted_reqB : (s.noteCompleted).reqB = s.reqB := rfl
@[simp] theorem State.noteCompleted_reqC : (s.noteCompleted).reqC = s.reqC := rfl
@[simp] theorem State.noteCompleted_reqHold : (s.noteCompleted).reqHold = s.reqHold := rfl
@[simp] theorem State.noteCompleted_script : (s.noteCompleted).script = s.script := rfl
@[simp] theorem State.noteCompleted_presented : (s.noteCompleted).presented = s.presented := rfl
@[simp] theorem State.noteCompleted_roundtripA : (s.noteCompleted).roundtripA = (roundtripOperand s.presented).or s.roundtripA := rfl
@[simp] theorem State.noteCompleted_reads : (s.noteCompleted).reads = s.reads := rfl
@[simp] theorem State.noteCompleted_faults : (s.noteCompleted).faults = s.faults := rfl
@[simp] theorem State.noteCompleted_fresh : (s.noteCompleted).fresh = s.fresh := rfl
@[simp] theorem State.noteCompleted_stream : (s.noteCompleted).stream = s.stream := rfl
@[simp] theorem State.noteCompleted_turn : (s.noteCompleted).turn = s.turn := rfl
end NoteCompletedFields

section DriveRequestFields
variable (i : Instr)
@[simp] theorem State.driveRequest_status : (s.driveRequest i).status = s.status := rfl
@[simp] theorem State.driveRequest_raw : (s.driveRequest i).raw = s.raw := rfl
@[simp] theorem State.driveRequest_dec : (s.driveRequest i).dec = s.dec := rfl
@[simp] theorem State.driveRequest_val : (s.driveRequest i).val = s.val := rfl
@[simp] theorem State.driveRequest_opr : (s.driveRequest i).opr = s.opr := rfl
@[simp] theorem State.driveRequest_opa : (s.driveRequest i).opa = s.opa := rfl
@[simp] theorem State.driveRequest_opb : (s.driveRequest i).opb = s.opb := rfl
@[simp] theorem State.driveRequest_opc : (s.driveRequest i).opc = s.opc := rfl
@[simp] theorem State.driveRequest_macc : (s.driveRequest i).macc = s.macc := rfl
@[simp] theorem State.driveRequest_iter : (s.driveRequest i).iter = s.iter := rfl
@[simp] theorem State.driveRequest_uexp : (s.driveRequest i).uexp = s.uexp := rfl
@[simp] theorem State.driveRequest_left : (s.driveRequest i).left = s.left := rfl
@[simp] theorem State.driveRequest_rstPlan : (s.driveRequest i).rstPlan = s.rstPlan := rfl
@[simp] theorem State.driveRequest_reqValid : (s.driveRequest i).reqValid = s.reqValid := rfl
@[simp] theorem State.driveRequest_reqOp : (s.driveRequest i).reqOp = i.op := rfl
@[simp] theorem State.driveRequest_reqA : (s.driveRequest i).reqA = i.a := rfl
@[simp] theorem State.driveRequest_reqB : (s.driveRequest i).reqB = i.b := rfl
@[simp] theorem State.driveRequest_reqC : (s.driveRequest i).reqC = i.c := rfl
@[simp] theorem State.driveRequest_reqHold : (s.driveRequest i).reqHold = if s.reqHold = .accepted then .beyond else s.reqHold := rfl
@[simp] theorem State.driveRequest_script : (s.driveRequest i).script = s.script := rfl
@[simp] theorem State.driveRequest_presented : (s.driveRequest i).presented = s.presented := rfl
@[simp] theorem State.driveRequest_roundtripA : (s.driveRequest i).roundtripA = s.roundtripA := rfl
@[simp] theorem State.driveRequest_reads : (s.driveRequest i).reads = s.reads := rfl
@[simp] theorem State.driveRequest_faults : (s.driveRequest i).faults = s.faults := rfl
@[simp] theorem State.driveRequest_fresh : (s.driveRequest i).fresh = s.fresh := rfl
@[simp] theorem State.driveRequest_stream : (s.driveRequest i).stream = s.stream := rfl
@[simp] theorem State.driveRequest_turn : (s.driveRequest i).turn = s.turn := rfl
end DriveRequestFields

section PresentFields
variable (i : Instr) (k : Bool)
@[simp] theorem State.present_status : (s.present i k).status = s.status := rfl
@[simp] theorem State.present_raw : (s.present i k).raw = s.raw := rfl
@[simp] theorem State.present_dec : (s.present i k).dec = s.dec := rfl
@[simp] theorem State.present_val : (s.present i k).val = s.val := rfl
@[simp] theorem State.present_opr : (s.present i k).opr = s.opr := rfl
@[simp] theorem State.present_opa : (s.present i k).opa = s.opa := rfl
@[simp] theorem State.present_opb : (s.present i k).opb = s.opb := rfl
@[simp] theorem State.present_opc : (s.present i k).opc = s.opc := rfl
@[simp] theorem State.present_macc : (s.present i k).macc = s.macc := rfl
@[simp] theorem State.present_iter : (s.present i k).iter = s.iter := rfl
@[simp] theorem State.present_uexp : (s.present i k).uexp = s.uexp := rfl
@[simp] theorem State.present_left : (s.present i k).left = s.left := rfl
@[simp] theorem State.present_rstPlan : (s.present i k).rstPlan = s.rstPlan := rfl
@[simp] theorem State.present_reqValid : (s.present i k).reqValid = true := rfl
@[simp] theorem State.present_reqOp : (s.present i k).reqOp = i.op := rfl
@[simp] theorem State.present_reqA : (s.present i k).reqA = i.a := rfl
@[simp] theorem State.present_reqB : (s.present i k).reqB = i.b := rfl
@[simp] theorem State.present_reqC : (s.present i k).reqC = i.c := rfl
@[simp] theorem State.present_reqHold : (s.present i k).reqHold = if k then .beyond else .untilAccept := rfl
@[simp] theorem State.present_script : (s.present i k).script = s.script := rfl
@[simp] theorem State.present_presented : (s.present i k).presented = s.presented := rfl
@[simp] theorem State.present_roundtripA : (s.present i k).roundtripA = s.roundtripA := rfl
@[simp] theorem State.present_reads : (s.present i k).reads = s.reads := rfl
@[simp] theorem State.present_faults : (s.present i k).faults = s.faults := rfl
@[simp] theorem State.present_fresh : (s.present i k).fresh = s.fresh := rfl
@[simp] theorem State.present_stream : (s.present i k).stream = s.stream := rfl
@[simp] theorem State.present_turn : (s.present i k).turn = s.turn := rfl
end PresentFields

section ReleasePortFields
@[simp] theorem State.releasePort_status : (s.releasePort).status = s.status := rfl
@[simp] theorem State.releasePort_raw : (s.releasePort).raw = s.raw := rfl
@[simp] theorem State.releasePort_dec : (s.releasePort).dec = s.dec := rfl
@[simp] theorem State.releasePort_val : (s.releasePort).val = s.val := rfl
@[simp] theorem State.releasePort_opr : (s.releasePort).opr = s.opr := rfl
@[simp] theorem State.releasePort_opa : (s.releasePort).opa = s.opa := rfl
@[simp] theorem State.releasePort_opb : (s.releasePort).opb = s.opb := rfl
@[simp] theorem State.releasePort_opc : (s.releasePort).opc = s.opc := rfl
@[simp] theorem State.releasePort_macc : (s.releasePort).macc = s.macc := rfl
@[simp] theorem State.releasePort_iter : (s.releasePort).iter = s.iter := rfl
@[simp] theorem State.releasePort_uexp : (s.releasePort).uexp = s.uexp := rfl
@[simp] theorem State.releasePort_left : (s.releasePort).left = s.left := rfl
@[simp] theorem State.releasePort_rstPlan : (s.releasePort).rstPlan = s.rstPlan := rfl
@[simp] theorem State.releasePort_reqValid : (s.releasePort).reqValid = false := rfl
@[simp] theorem State.releasePort_reqOp : (s.releasePort).reqOp = s.reqOp := rfl
@[simp] theorem State.releasePort_reqA : (s.releasePort).reqA = s.reqA := rfl
@[simp] theorem State.releasePort_reqB : (s.releasePort).reqB = s.reqB := rfl
@[simp] theorem State.releasePort_reqC : (s.releasePort).reqC = s.reqC := rfl
@[simp] theorem State.releasePort_reqHold : (s.releasePort).reqHold = .untilAccept := rfl
@[simp] theorem State.releasePort_script : (s.releasePort).script = s.script := rfl
@[simp] theorem State.releasePort_presented : (s.releasePort).presented = s.presented := rfl
@[simp] theorem State.releasePort_roundtripA : (s.releasePort).roundtripA = s.roundtripA := rfl
@[simp] theorem State.releasePort_reads : (s.releasePort).reads = s.reads := rfl
@[simp] theorem State.releasePort_faults : (s.releasePort).faults = s.faults := rfl
@[simp] theorem State.releasePort_fresh : (s.releasePort).fresh = s.fresh := rfl
@[simp] theorem State.releasePort_stream : (s.releasePort).stream = s.stream := rfl
@[simp] theorem State.releasePort_turn : (s.releasePort).turn = s.turn := rfl
end ReleasePortFields

section RecordFaultFields
variable (f : Fault)
@[simp] theorem State.recordFault_status : (s.recordFault f).status = s.status := rfl
@[simp] theorem State.recordFault_raw : (s.recordFault f).raw = s.raw := rfl
@[simp] theorem State.recordFault_dec : (s.recordFault f).dec = s.dec := rfl
@[simp] theorem State.recordFault_val : (s.recordFault f).val = s.val := rfl
@[simp] theorem State.recordFault_opr : (s.recordFault f).opr = s.opr := rfl
@[simp] theorem State.recordFault_opa : (s.recordFault f).opa = s.opa := rfl
@[simp] theorem State.recordFault_opb : (s.recordFault f).opb = s.opb := rfl
@[simp] theorem State.recordFault_opc : (s.recordFault f).opc = s.opc := rfl
@[simp] theorem State.recordFault_macc : (s.recordFault f).macc = s.macc := rfl
@[simp] theorem State.recordFault_iter : (s.recordFault f).iter = s.iter := rfl
@[simp] theorem State.recordFault_uexp : (s.recordFault f).uexp = s.uexp := rfl
@[simp] theorem State.recordFault_left : (s.recordFault f).left = s.left := rfl
@[simp] theorem State.recordFault_rstPlan : (s.recordFault f).rstPlan = s.rstPlan := rfl
@[simp] theorem State.recordFault_reqValid : (s.recordFault f).reqValid = s.reqValid := rfl
@[simp] theorem State.recordFault_reqOp : (s.recordFault f).reqOp = s.reqOp := rfl
@[simp] theorem State.recordFault_reqA : (s.recordFault f).reqA = s.reqA := rfl
@[simp] theorem State.recordFault_reqB : (s.recordFault f).reqB = s.reqB := rfl
@[simp] theorem State.recordFault_reqC : (s.recordFault f).reqC = s.reqC := rfl
@[simp] theorem State.recordFault_reqHold : (s.recordFault f).reqHold = s.reqHold := rfl
@[simp] theorem State.recordFault_script : (s.recordFault f).script = s.script := rfl
@[simp] theorem State.recordFault_presented : (s.recordFault f).presented = s.presented := rfl
@[simp] theorem State.recordFault_roundtripA : (s.recordFault f).roundtripA = s.roundtripA := rfl
@[simp] theorem State.recordFault_reads : (s.recordFault f).reads = s.reads := rfl
@[simp] theorem State.recordFault_faults : (s.recordFault f).faults = f :: s.faults := rfl
@[simp] theorem State.recordFault_fresh : (s.recordFault f).fresh = s.fresh := rfl
@[simp] theorem State.recordFault_stream : (s.recordFault f).stream = s.stream := rfl
@[simp] theorem State.recordFault_turn : (s.recordFault f).turn = s.turn := rfl
end RecordFaultFields

end Sys2Proof.Machine
end

