-- ==== Sys2Proof/Laws/Flags.lean ====
section
/-! SUPPORT. The bits of STATUS after each update (10_state.md R24): one lemma per bit per update. -/

namespace Sys2Proof.Machine

theorem setRawV_busy (st : BitVec 4) : (setRawV st).getLsbD 0 = st.getLsbD 0 := by
  revert st; decide
theorem setRawV_rawV (st : BitVec 4) : (setRawV st).getLsbD 1 = true := by
  revert st; decide
theorem setRawV_decV (st : BitVec 4) : (setRawV st).getLsbD 2 = st.getLsbD 2 := by
  revert st; decide
theorem setRawV_valV (st : BitVec 4) : (setRawV st).getLsbD 3 = st.getLsbD 3 := by
  revert st; decide
theorem setDecV_busy (st : BitVec 4) : (setDecV st).getLsbD 0 = st.getLsbD 0 := by
  revert st; decide
theorem setDecV_rawV (st : BitVec 4) : (setDecV st).getLsbD 1 = st.getLsbD 1 := by
  revert st; decide
theorem setDecV_decV (st : BitVec 4) : (setDecV st).getLsbD 2 = true := by
  revert st; decide
theorem setDecV_valV (st : BitVec 4) : (setDecV st).getLsbD 3 = st.getLsbD 3 := by
  revert st; decide
theorem setValV_busy (st : BitVec 4) : (setValV st).getLsbD 0 = st.getLsbD 0 := by
  revert st; decide
theorem setValV_rawV (st : BitVec 4) : (setValV st).getLsbD 1 = st.getLsbD 1 := by
  revert st; decide
theorem setValV_decV (st : BitVec 4) : (setValV st).getLsbD 2 = st.getLsbD 2 := by
  revert st; decide
theorem setValV_valV (st : BitVec 4) : (setValV st).getLsbD 3 = true := by
  revert st; decide
theorem clearBusy_busy (st : BitVec 4) : (clearBusy st).getLsbD 0 = false := by
  revert st; decide
theorem clearBusy_rawV (st : BitVec 4) : (clearBusy st).getLsbD 1 = st.getLsbD 1 := by
  revert st; decide
theorem clearBusy_decV (st : BitVec 4) : (clearBusy st).getLsbD 2 = st.getLsbD 2 := by
  revert st; decide
theorem clearBusy_valV (st : BitVec 4) : (clearBusy st).getLsbD 3 = st.getLsbD 3 := by
  revert st; decide

variable (s : State)

@[simp] theorem State.writeRaw_busy (g : RawGroup) : (s.writeRaw g).busy = s.busy :=
  setRawV_busy s.status
@[simp] theorem State.writeRaw_rawV (g : RawGroup) : (s.writeRaw g).rawV = true :=
  setRawV_rawV s.status
@[simp] theorem State.writeRaw_decV (g : RawGroup) : (s.writeRaw g).decV = s.decV :=
  setRawV_decV s.status
@[simp] theorem State.writeRaw_valV (g : RawGroup) : (s.writeRaw g).valV = s.valV :=
  setRawV_valV s.status
@[simp] theorem State.writeDec_busy (g : DecGroup) : (s.writeDec g).busy = s.busy :=
  setDecV_busy s.status
@[simp] theorem State.writeDec_rawV (g : DecGroup) : (s.writeDec g).rawV = s.rawV :=
  setDecV_rawV s.status
@[simp] theorem State.writeDec_decV (g : DecGroup) : (s.writeDec g).decV = true :=
  setDecV_decV s.status
@[simp] theorem State.writeDec_valV (g : DecGroup) : (s.writeDec g).valV = s.valV :=
  setDecV_valV s.status
@[simp] theorem State.writeVal_busy (v : Word) : (s.writeVal v).busy = s.busy :=
  setValV_busy s.status
@[simp] theorem State.writeVal_rawV (v : Word) : (s.writeVal v).rawV = s.rawV :=
  setValV_rawV s.status
@[simp] theorem State.writeVal_decV (v : Word) : (s.writeVal v).decV = s.decV :=
  setValV_decV s.status
@[simp] theorem State.writeVal_valV (v : Word) : (s.writeVal v).valV = true :=
  setValV_valV s.status
@[simp] theorem State.finish_busy : (s.finish).busy = false :=
  clearBusy_busy s.status
@[simp] theorem State.finish_rawV : (s.finish).rawV = s.rawV :=
  clearBusy_rawV s.status
@[simp] theorem State.finish_decV : (s.finish).decV = s.decV :=
  clearBusy_decV s.status
@[simp] theorem State.finish_valV : (s.finish).valV = s.valV :=
  clearBusy_valV s.status
@[simp] theorem State.latch_busy (op : BitVec 2) (a b c : Word) (n : Nat) : (s.latch op a b c n).busy = true := by
  show statusAccepted.getLsbD 0 = true; decide
@[simp] theorem State.latch_rawV (op : BitVec 2) (a b c : Word) (n : Nat) : (s.latch op a b c n).rawV = false := by
  show statusAccepted.getLsbD 1 = false; decide
@[simp] theorem State.latch_decV (op : BitVec 2) (a b c : Word) (n : Nat) : (s.latch op a b c n).decV = false := by
  show statusAccepted.getLsbD 2 = false; decide
@[simp] theorem State.latch_valV (op : BitVec 2) (a b c : Word) (n : Nat) : (s.latch op a b c n).valV = false := by
  show statusAccepted.getLsbD 3 = false; decide
@[simp] theorem State.accept_busy : (s.accept).busy = true := by
  show statusAccepted.getLsbD 0 = true; decide
@[simp] theorem State.accept_rawV : (s.accept).rawV = false := by
  show statusAccepted.getLsbD 1 = false; decide
@[simp] theorem State.accept_decV : (s.accept).decV = false := by
  show statusAccepted.getLsbD 2 = false; decide
@[simp] theorem State.accept_valV : (s.accept).valV = false := by
  show statusAccepted.getLsbD 3 = false; decide
@[simp] theorem State.resetCore_busy : (s.resetCore).busy = false := by
  show statusReset.getLsbD 0 = false; decide
@[simp] theorem State.resetCore_rawV : (s.resetCore).rawV = false := by
  show statusReset.getLsbD 1 = false; decide
@[simp] theorem State.resetCore_decV : (s.resetCore).decV = false := by
  show statusReset.getLsbD 2 = false; decide
@[simp] theorem State.resetCore_valV : (s.resetCore).valV = false := by
  show statusReset.getLsbD 3 = false; decide
@[simp] theorem State.stirHidden_busy : (s.stirHidden).busy = s.busy := rfl
@[simp] theorem State.stirHidden_rawV : (s.stirHidden).rawV = s.rawV := rfl
@[simp] theorem State.stirHidden_decV : (s.stirHidden).decV = s.decV := rfl
@[simp] theorem State.stirHidden_valV : (s.stirHidden).valV = s.valV := rfl
@[simp] theorem State.passEdge_busy : (s.passEdge).busy = s.busy := rfl
@[simp] theorem State.passEdge_rawV : (s.passEdge).rawV = s.rawV := rfl
@[simp] theorem State.passEdge_decV : (s.passEdge).decV = s.decV := rfl
@[simp] theorem State.passEdge_valV : (s.passEdge).valV = s.valV := rfl
@[simp] theorem State.holdRstLow_busy : (s.holdRstLow).busy = s.busy := rfl
@[simp] theorem State.holdRstLow_rawV : (s.holdRstLow).rawV = s.rawV := rfl
@[simp] theorem State.holdRstLow_decV : (s.holdRstLow).decV = s.decV := rfl
@[simp] theorem State.holdRstLow_valV : (s.holdRstLow).valV = s.valV := rfl
@[simp] theorem State.countDown_busy : (s.countDown).busy = s.busy := rfl
@[simp] theorem State.countDown_rawV : (s.countDown).rawV = s.rawV := rfl
@[simp] theorem State.countDown_decV : (s.countDown).decV = s.decV := rfl
@[simp] theorem State.countDown_valV : (s.countDown).valV = s.valV := rfl
@[simp] theorem State.drawTurn_busy : (s.drawTurn).busy = s.busy := rfl
@[simp] theorem State.drawTurn_rawV : (s.drawTurn).rawV = s.rawV := rfl
@[simp] theorem State.drawTurn_decV : (s.drawTurn).decV = s.decV := rfl
@[simp] theorem State.drawTurn_valV : (s.drawTurn).valV = s.valV := rfl
@[simp] theorem State.noteCompleted_busy : (s.noteCompleted).busy = s.busy := rfl
@[simp] theorem State.noteCompleted_rawV : (s.noteCompleted).rawV = s.rawV := rfl
@[simp] theorem State.noteCompleted_decV : (s.noteCompleted).decV = s.decV := rfl
@[simp] theorem State.noteCompleted_valV : (s.noteCompleted).valV = s.valV := rfl
@[simp] theorem State.driveRequest_busy (i : Instr) : (s.driveRequest i).busy = s.busy := rfl
@[simp] theorem State.driveRequest_rawV (i : Instr) : (s.driveRequest i).rawV = s.rawV := rfl
@[simp] theorem State.driveRequest_decV (i : Instr) : (s.driveRequest i).decV = s.decV := rfl
@[simp] theorem State.driveRequest_valV (i : Instr) : (s.driveRequest i).valV = s.valV := rfl
@[simp] theorem State.present_busy (i : Instr) (k : Bool) : (s.present i k).busy = s.busy := rfl
@[simp] theorem State.present_rawV (i : Instr) (k : Bool) : (s.present i k).rawV = s.rawV := rfl
@[simp] theorem State.present_decV (i : Instr) (k : Bool) : (s.present i k).decV = s.decV := rfl
@[simp] theorem State.present_valV (i : Instr) (k : Bool) : (s.present i k).valV = s.valV := rfl
@[simp] theorem State.releasePort_busy : (s.releasePort).busy = s.busy := rfl
@[simp] theorem State.releasePort_rawV : (s.releasePort).rawV = s.rawV := rfl
@[simp] theorem State.releasePort_decV : (s.releasePort).decV = s.decV := rfl
@[simp] theorem State.releasePort_valV : (s.releasePort).valV = s.valV := rfl
@[simp] theorem State.recordFault_busy (f : Fault) : (s.recordFault f).busy = s.busy := rfl
@[simp] theorem State.recordFault_rawV (f : Fault) : (s.recordFault f).rawV = s.rawV := rfl
@[simp] theorem State.recordFault_decV (f : Fault) : (s.recordFault f).decV = s.decV := rfl
@[simp] theorem State.recordFault_valV (f : Fault) : (s.recordFault f).valV = s.valV := rfl

end Sys2Proof.Machine
end

