-- ==== Sys2Proof/Laws/Exec.lean ====
section
/-! SUPPORT. What a COMPLETE does, said once (10_state.md R30), and the two ways the request in the
latch and on the port is read. -/

namespace Sys2Proof.Machine

@[simp] theorem decodeFields_parts (i : Instr) : decodeFields i.op i.a i.b i.c = i := by
  cases i <;> rfl

@[simp] theorem State.present_offered (s : State) (i : Instr) (k : Bool) : (s.present i k).offered = i :=
  decodeFields_parts i

@[simp] theorem State.driveRequest_offered (s : State) (i : Instr) : (s.driveRequest i).offered = i :=
  decodeFields_parts i

@[simp] theorem State.noteCompleted_latched (s : State) : s.noteCompleted.latched = s.latched := rfl

@[simp] theorem State.noteCompleted_offered (s : State) : s.noteCompleted.offered = s.offered := rfl

@[simp] theorem State.accept_latched (s : State) : s.accept.latched = s.offered := rfl

@[simp] theorem State.latch_latched (s : State) (op : BitVec 2) (a b c : Word) (n : Nat) :
    (s.latch op a b c n).latched = decodeFields op a b c := rfl

@[simp] theorem State.passEdge_latched (s : State) : s.passEdge.latched = s.latched := rfl

@[simp] theorem State.drawTurn_latched (s : State) : s.drawTurn.latched = s.latched := rfl

@[simp] theorem State.passEdge_offered (s : State) : s.passEdge.offered = s.offered := rfl

@[simp] theorem State.drawTurn_offered (s : State) : s.drawTurn.offered = s.offered := rfl

/-- Everything a COMPLETE does: the groups of its request are written, the others stay; the valid bits
follow; BUSY is cleared, nothing is in flight; its frame is untouched. -/
theorem exec_cases (i : Instr) (s : State) :
    ∃ t, exec i s = .next t ∧
      t.raw = (rawOf i).or s.raw ∧ t.dec = (decOf i).or s.dec ∧ t.val = (valOf i).or s.val ∧
      t.rawV = ((rawOf i).isSome || s.rawV) ∧ t.decV = ((decOf i).isSome || s.decV) ∧
      t.valV = ((valOf i).isSome || s.valV) ∧
      t.busy = false ∧ t.left = 0 ∧ s.completeFrame t := by
  cases i with
  | extract a b c =>
    exact ⟨_, rfl, rfl, rfl, rfl, by simp [rawOf], by simp [decOf], by simp [valOf], by simp, rfl,
      ⟨rfl, rfl, rfl, rfl⟩, ⟨rfl, rfl, rfl, rfl, rfl, rfl⟩, rfl, ⟨rfl, rfl, rfl, rfl, rfl⟩, rfl⟩
  | decode a b c =>
    exact ⟨_, rfl, rfl, rfl, rfl, by simp [rawOf], by simp [decOf], by simp [valOf], by simp, rfl,
      ⟨rfl, rfl, rfl, rfl⟩, ⟨rfl, rfl, rfl, rfl, rfl, rfl⟩, rfl, ⟨rfl, rfl, rfl, rfl, rfl⟩, rfl⟩
  | reconstruct a b c =>
    exact ⟨_, rfl, rfl, rfl, rfl, by simp [rawOf], by simp [decOf], by simp [valOf], by simp, rfl,
      ⟨rfl, rfl, rfl, rfl⟩, ⟨rfl, rfl, rfl, rfl, rfl, rfl⟩, rfl, ⟨rfl, rfl, rfl, rfl, rfl⟩, rfl⟩
  | roundtrip a b c =>
    exact ⟨_, rfl, rfl, rfl, rfl, by simp [rawOf], by simp [decOf], by simp [valOf], by simp, rfl,
      ⟨rfl, rfl, rfl, rfl⟩, ⟨rfl, rfl, rfl, rfl, rfl, rfl⟩, rfl, ⟨rfl, rfl, rfl, rfl, rfl⟩, rfl⟩

end Sys2Proof.Machine
end

