-- ==== Sys2Proof/Laws/PerInstr.lean ====
section
/-! SUPPORT. The opcode table's rows, per request: each request's bundle carries its row's match bits
under the row's mask, and the three operands in the row's fields (spec/opcode_table.json,
30_encoding.md R50, R51). -/

namespace Sys2Proof.Laws.OpField

/-- The `match` word of the request's row in spec/opcode_table.json. -/
def rowMatch : Instr → BitVec 98
  | .extract _ _ _ => 0x0000000000000000000000000#98
  | .decode _ _ _ => 0x1000000000000000000000000#98
  | .reconstruct _ _ _ => 0x2000000000000000000000000#98
  | .roundtrip _ _ _ => 0x3000000000000000000000000#98

/-- The request is well formed, its bundle's OP field is its row's, and bits 95:64, 63:32 and 31:0 are
its operands. -/
def Statement (i : Instr) : Prop :=
  i.wellFormed = true ∧ bundleOp (encode i) = bundleOp (rowMatch i) ∧
  bundleA (encode i) = i.a ∧ bundleB (encode i) = i.b ∧ bundleC (encode i) = i.c

theorem extract (a b c : Word) : Statement (.extract a b c) :=
  ⟨rfl, (bundleOp_append _ _ _ _).trans (by simp only [Instr.op, rowMatch]; decide),
    bundleA_append _ _ _ _, bundleB_append _ _ _ _, bundleC_append _ _ _ _⟩

theorem decode (a b c : Word) : Statement (.decode a b c) :=
  ⟨rfl, (bundleOp_append _ _ _ _).trans (by simp only [Instr.op, rowMatch]; decide),
    bundleA_append _ _ _ _, bundleB_append _ _ _ _, bundleC_append _ _ _ _⟩

theorem reconstruct (a b c : Word) : Statement (.reconstruct a b c) :=
  ⟨rfl, (bundleOp_append _ _ _ _).trans (by simp only [Instr.op, rowMatch]; decide),
    bundleA_append _ _ _ _, bundleB_append _ _ _ _, bundleC_append _ _ _ _⟩

theorem roundtrip (a b c : Word) : Statement (.roundtrip a b c) :=
  ⟨rfl, (bundleOp_append _ _ _ _).trans (by simp only [Instr.op, rowMatch]; decide),
    bundleA_append _ _ _ _, bundleB_append _ _ _ _, bundleC_append _ _ _ _⟩

end Sys2Proof.Laws.OpField
end

