-- ==== Sys2Proof/Laws/Step.lean ====
section
/-! SUPPORT. What a step can do, said once: the cases of a clock edge, of a host step and of `step`
(10_state.md R29, R30; 70_reset_and_hazards.md R160, R161, R170). -/

namespace Sys2Proof.Machine

theorem State.passEdge_of_nil {s : State} (h : s.rstPlan = []) : s.passEdge = s := by
  cases s; simp only at h; subst h; rfl

@[simp] theorem State.drawTurn_rst (s : State) : s.drawTurn.rst = s.rst := rfl

/-- The platform's hold keeps `rst` low at the coming edge. -/
@[simp] theorem State.holdRstLow_rst (s : State) : s.holdRstLow.rst = false := by
  show (lowNext s.rstPlan).headD false = false
  cases s.rstPlan <;> rfl

/-- With no step left the host draws no choice, and the draw changes nothing. -/
theorem State.drawTurn_of_nil {s : State} (h : s.script = []) : s.drawTurn = s := by
  cases s; simp only at h; subst h; rfl

/-- The cases of one rising edge that answers a next state. -/
theorem clockEdge_cases {s t : State} (h : clockEdge s = .next t) :
    (s.rst = true ∧ t = s.passEdge.resetCore) ∨
    (s.rst = false ∧ s.busy = true ∧ s.left ≤ 1 ∧ exec s.latched s.passEdge.noteCompleted = .next t) ∨
    (s.rst = false ∧ s.busy = true ∧ 1 < s.left ∧ t = s.passEdge.countDown) ∨
    (s.rst = false ∧ s.busy = false ∧ s.reqValid = true ∧ t = s.passEdge.accept) ∨
    (s.rst = false ∧ s.busy = false ∧ s.reqValid = false ∧ t = s.passEdge) := by
  unfold clockEdge at h
  cases hr : s.rst with
  | true => simp only [hr, if_true, Host.Outcome.next.injEq] at h; exact .inl ⟨rfl, h.symm⟩
  | false =>
    cases hb : s.busy with
    | true =>
      by_cases hl : s.left ≤ 1
      · simp only [hr, hb, hl, if_true] at h; exact .inr (.inl ⟨rfl, rfl, hl, by simpa using h⟩)
      · simp [hr, hb, hl] at h
        exact .inr (.inr (.inl ⟨rfl, rfl, Nat.lt_of_not_le hl, h.symm⟩))
    | false =>
      cases hq : s.reqValid with
      | true => simp [hr, hb, hq] at h; exact .inr (.inr (.inr (.inl ⟨rfl, rfl, rfl, h.symm⟩)))
      | false =>
        simp only [hr, hb, hq, idleEdge, Bool.false_eq_true, if_false] at h
        refine .inr (.inr (.inr (.inr ⟨rfl, rfl, rfl, ?_⟩)))
        split at h
        · cases h
        · rename_i h1 h2; rw [State.passEdge_of_nil h1]; injection h with h; exact h.symm
        · injection h with h; exact h.symm

/-- When an edge stops: only with nothing left to do and a fault recorded; never with a refusal. -/
theorem clockEdge_stops {s : State} :
    (∀ f, clockEdge s = .fault f → s.clockIdle = true ∧ s.faults.head? = some f) ∧
    (∀ r, clockEdge s ≠ .refused r) := by
  unfold clockEdge
  obtain ⟨t, ht, -⟩ := exec_cases s.latched s.passEdge.noteCompleted
  refine ⟨fun f h => ?_, fun r h => ?_⟩ <;>
  · rw [ht] at h
    split at h
    · cases h
    · split at h
      · split at h <;> cases h
      · split at h
        · cases h
        · rename_i hb hq
          simp only [idleEdge] at h
          split at h <;> simp_all [State.clockIdle]

/-- The cases of a step. -/
theorem step_cases {s t : State} (h : step s = .next t) :
    (s.hostMoves = true ∧ t = s.drawTurn.hostMove) ∨
    (s.hostMoves = false ∧ clockEdge s.drawTurn = .next t) := by
  unfold step at h
  cases hm : s.hostMoves with
  | true => simp only [hm, if_true, Host.Outcome.next.injEq] at h; exact .inl ⟨rfl, h.symm⟩
  | false => simp only [hm, Bool.false_eq_true, if_false] at h; exact .inr ⟨rfl, h⟩

/-- The state itself, as the frames name it. -/
theorem State.sameCore_refl (s : State) : s.sameCore s :=
  ⟨rfl, ⟨rfl, rfl, rfl⟩, ⟨rfl, rfl, rfl, rfl⟩, ⟨rfl, rfl, rfl⟩, rfl⟩

theorem State.sameRequestPort_refl (s : State) : s.sameRequestPort s := ⟨rfl, rfl, rfl, rfl, rfl, rfl⟩

/-- A READ touches nothing but what the host has read and the faults recorded (20_memory.md R43). -/
theorem State.hostRead_frame (s : State) (r : Reg) :
    s.sameCore (s.hostRead r) ∧ s.sameRequestPort (s.hostRead r) ∧
      (s.hostRead r).rstPlan = s.rstPlan ∧ (s.hostRead r).script = s.script ∧
      (s.hostRead r).presented = s.presented ∧ (s.hostRead r).roundtripA = s.roundtripA := by
  unfold State.hostRead
  split <;> exact ⟨s.sameCore_refl, s.sameRequestPort_refl, rfl, rfl, rfl, rfl⟩

/-- A CHECK touches nothing but the faults recorded. -/
theorem State.hostCheck_frame (s : State) :
    s.sameCore s.hostCheck ∧ s.sameRequestPort s.hostCheck ∧ s.hostCheck.rstPlan = s.rstPlan ∧
      s.hostCheck.script = s.script ∧ s.hostCheck.presented = s.presented ∧
      s.hostCheck.roundtripA = s.roundtripA ∧ s.hostCheck.reads = s.reads := by
  have h : s.sameCore s ∧ s.sameRequestPort s := ⟨s.sameCore_refl, s.sameRequestPort_refl⟩
  unfold State.hostCheck
  split
  · exact ⟨h.1, h.2, rfl, rfl, rfl, rfl, rfl⟩
  · split <;> exact ⟨h.1, h.2, rfl, rfl, rfl, rfl, rfl⟩
  · exact ⟨h.1, h.2, rfl, rfl, rfl, rfl, rfl⟩

/-- What a step of the host can do: be the ACCEPT edge of an issue, be a reset edge, or leave the CORE,
`rst` and what the host had presented alone. -/
theorem State.hostEffect_cases (s : State) (h : HostStep) :
    (∃ i, h = .issue i ∧ s.hostEffect h = (s.present i false).passEdge.accept) ∨
    (h = .reset ∧ s.hostEffect h = s.passEdge.resetCore) ∨
    (s.sameCore (s.hostEffect h) ∧ (s.hostEffect h).rstPlan = s.rstPlan ∧
      (s.hostEffect h).script = s.script ∧ (s.hostEffect h).presented = s.presented ∧
      (s.hostEffect h).roundtripA = s.roundtripA) := by
  have h0 := s.sameCore_refl
  cases h with
  | issue i => exact .inl ⟨i, rfl, rfl⟩
  | reset => exact .inr (.inl ⟨rfl, rfl⟩)
  | present i k => exact .inr (.inr ⟨h0, rfl, rfl, rfl, rfl⟩)
  | drive i => exact .inr (.inr ⟨h0, rfl, rfl, rfl, rfl⟩)
  | hold => exact .inr (.inr ⟨h0, rfl, rfl, rfl, rfl⟩)
  | release => exact .inr (.inr ⟨h0, rfl, rfl, rfl, rfl⟩)
  | wait => exact .inr (.inr ⟨h0, rfl, rfl, rfl, rfl⟩)
  | read r =>
    obtain ⟨a, -, c⟩ := s.hostRead_frame r
    exact .inr (.inr ⟨a, c⟩)
  | check =>
    obtain ⟨a, -, c, d, e, f, -⟩ := s.hostCheck_frame
    exact .inr (.inr ⟨a, c, d, e, f⟩)
  | presentDecodeRead =>
    simp only [State.hostEffect]
    split <;> exact .inr (.inr ⟨h0, rfl, rfl, rfl, rfl⟩)
  | presentReconstructRead =>
    simp only [State.hostEffect]
    split <;> exact .inr (.inr ⟨h0, rfl, rfl, rfl, rfl⟩)

/-- A waiting request survives every enabled step of the host but an issue, which accepts one
(70_reset_and_hazards.md R164). -/
theorem State.hostEffect_waits (s : State) (h : HostStep) (hw : s.waits = true)
    (he : s.stepEnabled h = true) :
    (s.hostEffect h).waits = true ∨ ∃ i, h = .issue i := by
  have present : ∀ (i : Instr) (k : Bool), (s.present i k).waits = true := fun i k => by cases k <;> rfl
  simp only [State.waits, Bool.and_eq_true, bne_iff_ne, ne_eq] at hw
  cases h with
  | issue i => exact .inr ⟨i, rfl⟩
  | present i k => exact .inl (present i k)
  | drive i => exact .inl (by simp [State.hostEffect, State.waits, hw])
  | release => simp [State.stepEnabled, hw.2] at he
  | read r =>
    obtain ⟨-, ⟨a, -, -, -, -, b⟩, -⟩ := s.hostRead_frame r
    exact .inl (by simp [State.hostEffect, State.waits, a, b, hw])
  | check =>
    obtain ⟨-, ⟨a, -, -, -, -, b⟩, -⟩ := s.hostCheck_frame
    exact .inl (by simp [State.hostEffect, State.waits, a, b, hw])
  | hold => exact .inl (by simp [State.hostEffect, State.waits, hw])
  | wait => exact .inl (by simp [State.hostEffect, State.waits, hw])
  | reset => exact .inl (by simp [State.hostEffect, State.waits, hw])
  | presentDecodeRead =>
    simp only [State.hostEffect]
    split
    · exact .inl (present _ _)
    · exact .inl (by simp [State.waits, hw])
  | presentReconstructRead =>
    simp only [State.hostEffect]
    split
    · exact .inl (present _ _)
    · exact .inl (by simp [State.waits, hw])

/-- A host step takes exactly its own step off the script. -/
theorem State.hostEffect_script (s : State) (h : HostStep) : (s.hostEffect h).script = s.script := by
  rcases s.hostEffect_cases h with ⟨i, -, e⟩ | ⟨-, e⟩ | ⟨-, -, e, -⟩
  · rw [e]; rfl
  · rw [e]; rfl
  · exact e

/-- A host step adds at most one fault and removes none (60_exceptions.md R143). -/
theorem State.hostEffect_faults (s : State) (h : HostStep) :
    (s.hostEffect h).faults = s.faults ∨ ∃ f, (s.hostEffect h).faults = f :: s.faults := by
  cases h with
  | read r => simp only [State.hostEffect, State.hostRead]; split <;> simp
  | check =>
    simp only [State.hostEffect, State.hostCheck]
    split
    · simp
    · split <;> simp
    · simp
  | presentDecodeRead => simp only [State.hostEffect]; split <;> simp
  | presentReconstructRead => simp only [State.hostEffect]; split <;> simp
  | issue i => exact .inl rfl
  | present i k => exact .inl rfl
  | drive i => exact .inl rfl
  | hold => exact .inl rfl
  | release => exact .inl rfl
  | wait => exact .inl rfl
  | reset => exact .inl rfl

/-- A halted host never moves (60_exceptions.md R144). -/
theorem State.hostMoves_of_halted {s : State} (h : s.hostHalted = true) : s.hostMoves = false := by
  unfold State.hostMoves State.hostReady
  split <;> simp [h]

/-- A move of the host is one step off its script, and that step's effect. -/
theorem State.hostMove_cases {s : State} (h : s.hostReady = true) :
    ∃ x rest, s.script = x :: rest ∧ s.hostHalted = false ∧
      s.stepEnabled x = true ∧ s.hostMove = { s with script := rest }.hostEffect x := by
  unfold State.hostReady at h
  split at h
  · cases h
  · rename_i x rest hs
    simp only [Bool.and_eq_true, Bool.not_eq_true'] at h
    exact ⟨x, rest, hs, h.1, h.2, by simp [State.hostMove, hs]⟩

/-- The draw of the next turn does not change whether the host has a move. -/
@[simp] theorem State.drawTurn_hostReady (s : State) : s.drawTurn.hostReady = s.hostReady := by
  cases h : s.script with
  | nil => simp [State.hostReady, h]
  | cons x r =>
    simp only [State.hostReady, State.drawTurn_script, h]
    cases x <;> rfl

theorem State.hostReady_of_hostMoves {s : State} (h : s.hostMoves = true) : s.hostReady = true := by
  simp only [State.hostMoves, Bool.and_eq_true] at h; exact h.1

/-- Where the host moves, the step is its next step's effect. -/
theorem step_of_hostMoves {s : State} {x : HostStep} {rest : List HostStep}
    (h : s.hostMoves = true) (hs : s.script = x :: rest) :
    step s = .next ({ s.drawTurn with script := rest }.hostEffect x) := by
  simp only [step, h, if_true]
  simp [State.hostMove, hs]

/-- A READ of a register that holds a value. -/
theorem State.hostRead_some {s : State} {r : Reg} {v : Word} (h : s.readReg r = some v) :
    s.hostRead r = { s with reads := ⟨r, some v⟩ :: s.reads } := by
  simp only [State.hostRead, h]

/-- A READ of a register that holds NOVAL. -/
theorem State.hostRead_none {s : State} {r : Reg} (h : s.readReg r = none) :
    s.hostRead r = { s.recordFault (.readNoValue r) with reads := ⟨r, none⟩ :: s.reads } := by
  simp only [State.hostRead, h]

/-- The request of DECODE.RAW, made of the values just read (30_encoding.md R57). -/
theorem State.hostEffect_presentDecodeRead {s : State} {a : Word} (h : rawTripleRead s.reads = some a) :
    s.hostEffect .presentDecodeRead = s.present (.decode a 0#32 0#32) false := by
  simp only [State.hostEffect, h]

/-- The request of RECONSTRUCT.DEC, made of the values just read (30_encoding.md R57). -/
theorem State.hostEffect_presentReconstructRead {s : State} {d : DecGroup}
    (h : decTripleRead s.reads = some d) :
    s.hostEffect .presentReconstructRead = s.present (.reconstruct d.sunit d.eval d.mval) false := by
  simp only [State.hostEffect, h]

/-- A recorded fault stays through every edge, and an edge takes no step of the host. -/
theorem clockEdge_faults {s t : State} (h : clockEdge s = .next t) :
    t.faults = s.faults ∧ t.script = s.script := by
  rcases clockEdge_cases h with ⟨-, rfl⟩ | ⟨-, -, -, h4⟩ | ⟨-, -, -, rfl⟩ | ⟨-, -, -, rfl⟩ | ⟨-, -, -, rfl⟩
  · exact ⟨rfl, rfl⟩
  · obtain ⟨u, hu, -, -, -, -, -, -, -, -, -, -, -, ⟨hs, -, -, -, hf⟩, -⟩ :=
      exec_cases s.latched s.passEdge.noteCompleted
    rw [hu] at h4
    cases h4
    exact ⟨hf, hs⟩
  · exact ⟨rfl, rfl⟩
  · exact ⟨rfl, rfl⟩
  · exact ⟨rfl, rfl⟩

/-- With no host step left a step is a clock edge. -/
theorem step_of_nil {s : State} (h : s.script = []) : step s = clockEdge s := by
  simp [step, State.hostMoves, State.hostReady, h, State.drawTurn_of_nil h]

/-- On any machine, a run of one step more is that step and the run from there. -/
theorem coreRun_succ (M : Host.Core) {s t : M.State} (n : Nat) (h : M.step s = .next t) :
    M.run (n + 1) s = M.run n t := by
  simp only [Host.Core.run, h]

/-- A run of one step more is that step and the run from there. -/
theorem run_succ {s t : State} (n : Nat) (h : step s = .next t) :
    Sys2Proof.core.run (n + 1) s = Sys2Proof.core.run n t :=
  coreRun_succ Sys2Proof.core n h

end Sys2Proof.Machine
end

