-- ==== Sys2Proof/Tests/Slice0.lean ====
section
/-! SUPPORT. The model's own tests. Expected results come from spec/95_test_vectors.md and from the
encodings of 30_encoding.md; each test names its source. Then one witness per obligation that has
hypotheses: a state and operands that meet them together. -/

open Sys2Proof Sys2Proof.Machine

namespace Sys2Proof.Tests

/-! ## Decoding: words written out from 30_encoding.md R50, R51 -/

/-- `0:42AFBD71:FFFFFFFF:12345678` of 95_test_vectors.md L2.1. -/
theorem test_decode_extract :
    decodeTableWord 98 0x042AFBD71FFFFFFFF12345678 = some (.extract 0x42AFBD71#32 0xFFFFFFFF#32 0x12345678#32) := by
  decide +kernel

/-- `1:40000000:00000000:00000000` of 95_test_vectors.md P2. -/
theorem test_decode_decode :
    decodeTableWord 98 0x1400000000000000000000000 = some (.decode 0x40000000#32 0#32 0#32) := by
  decide +kernel

/-- `2:3F800000:40000000:3F800001`, the operands in the order of 30_encoding.md R50. -/
theorem test_decode_reconstruct :
    decodeTableWord 98 0x23F800000400000003F800001 = some (.reconstruct 0x3F800000#32 0x40000000#32 0x3F800001#32) := by
  decide +kernel

/-- `3:42AFBD71:00000000:00000000` of 95_test_vectors.md P1. -/
theorem test_decode_roundtrip :
    decodeTableWord 98 0x342AFBD710000000000000000 = some (.roundtrip 0x42AFBD71#32 0#32 0#32) := by
  decide +kernel

/-- A number of more than 98 bits is no bundle (30_encoding.md R50). -/
theorem test_decode_too_wide : decodeTableWord 99 (2 ^ 98) = none := by decide +kernel

/-- The printed form of 95_test_vectors.md P2's last request (30_encoding.md R58). -/
theorem test_printed :
    printed (.reconstruct 0x3F800000#32 0x40000000#32 0x3F800000#32) = "2:3F800000:40000000:3F800000" := by
  decide +kernel

/-! ## WellFormed: one ill-formed line for each check -/

/-- Every request is well formed (30_encoding.md R54). -/
theorem test_wellFormed_request : (Instr.extract 0xFFFFFFFF#32 0#32 0#32).wellFormed = true := by decide

theorem test_illFormed_extract : (Line.extract (2 ^ 32)).wellFormed = false := by decide
theorem test_illFormed_decode : (Line.decode (2 ^ 32)).wellFormed = false := by decide
theorem test_illFormed_reconstruct_a : (Line.reconstruct (2 ^ 32) 0 0).wellFormed = false := by decide
theorem test_illFormed_reconstruct_b : (Line.reconstruct 0 (2 ^ 32) 0).wellFormed = false := by decide
theorem test_illFormed_reconstruct_c : (Line.reconstruct 0 0 (2 ^ 32)).wellFormed = false := by decide
theorem test_illFormed_roundtrip : (Line.roundtrip (2 ^ 32)).wellFormed = false := by decide
theorem test_illFormed_decodeF_s : (Line.decodeF 2 0 0).wellFormed = false := by decide
theorem test_illFormed_decodeF_e : (Line.decodeF 0 256 0).wellFormed = false := by decide
theorem test_illFormed_decodeF_m : (Line.decodeF 0 0 0x800000).wellFormed = false := by decide

/-- The assembler refuses an ill-formed line by name, and takes the ends of the ranges (30_encoding.md
R57; 95_test_vectors.md L2.2). -/
theorem test_assemble_refuses :
    assembleLine (.decodeF 0 256 0) = .error .tripleOutOfRange ∧
    assembleLine (.extract (2 ^ 32)) = .error .operandTooWide ∧
    assembleLine (.decodeF 1 0 0x7FFFFF) = .ok [.present (.decode 0x807FFFFF#32 0#32 0#32) false, .hold] := by
  refine ⟨rfl, rfl, rfl⟩

/-! ## Small states -/

/-- A request on the port, in the state after reset. -/
def presented (i : Instr) : State := State.reset.present i false

/-- A request in flight, `n` edges before its COMPLETE. -/
def inFlight (i : Instr) (n : Nat) : State :=
  { State.reset.latch i.op i.a i.b i.c n with presented := some i }

/-- The next state, if there is one. -/
def nextOf : Host.Outcome State Fault Refusal → Option State
  | .next t => some t
  | .fault _ => none
  | .refused _ => none

/-- A completed request, with the host's steps and its turn. -/
def completed (i : Instr) (script : List HostStep) : State :=
  { (nextOf (exec i (inFlight i 1).noteCompleted)).getD State.reset with script := script, turn := .host }

/-! ## One step per instruction -/

/-- 95_test_vectors.md L2.1, the row 0xAAAAAAAA, with ignored operands that are not 0. -/
theorem test_extract_alternating :
    (nextOf (exec (.extract 0xAAAAAAAA#32 0xFFFFFFFF#32 0x12345678#32)
      (inFlight (.extract 0xAAAAAAAA#32 0xFFFFFFFF#32 0x12345678#32) 1))).map
      (fun t => (t.raw, t.status, t.dec, t.val)) =
    some (some ⟨1#1, 0x55#8, 0x2AAAAA#23⟩, 0b0010#4, none, none) := by decide +kernel

/-- 95_test_vectors.md L2.1, the row 0x80000000: the sign is 1. -/
theorem test_extract_negative_zero : extractFields 0x80000000#32 = ⟨1#1, 0x00#8, 0x000000#23⟩ := by
  decide +kernel

/-- 95_test_vectors.md L2.2, the row 0xC2AFBD71. -/
theorem test_decode_negative :
    (nextOf (exec (.decode 0xC2AFBD71#32 0#32 0#32) (inFlight (.decode 0xC2AFBD71#32 0#32 0#32) 1))).map
      (fun t => (t.dec, t.status)) =
    some (some ⟨0xBF800000#32, 0x42800000#32, 0x3FAFBD71#32⟩, 0b0100#4) := by decide +kernel

/-- 95_test_vectors.md L2.2, the row 0x007FFFFF: exponent 0 unguarded, the hidden bit kept. -/
theorem test_decode_subnormal :
    decodeTriple (extractFields 0x007FFFFF#32) = ⟨0x3F800000#32, 0x00400000#32, 0x3FFFFFFF#32⟩ := by
  decide +kernel

/-- 95_test_vectors.md L2.3, the row 0x3F800001, 0x3FC00000: a normal-range tie goes to even. -/
theorem test_reconstruct_tie :
    (nextOf (exec (.reconstruct 0x3F800001#32 0x3FC00000#32 0x3F800000#32)
      (inFlight (.reconstruct 0x3F800001#32 0x3FC00000#32 0x3F800000#32) 1))).map
      (fun t => (t.val, t.status)) =
    some (some 0x3FC00002#32, 0b1000#4) := by decide +kernel

/-- 95_test_vectors.md L2.3: the first product overflows, so the grouping matters. -/
theorem test_reconstruct_grouping :
    reconstruct 0x7F7FFFFF#32 0x40000000#32 0x3F000000#32 = 0x7F800000#32 := by decide +kernel

/-- 95_test_vectors.md L2.4, the row 0x807FFFFF: exponent 0 rounds up to the smallest normal. -/
theorem test_roundtrip_subnormal :
    (nextOf (exec (.roundtrip 0x807FFFFF#32 0#32 0#32) (inFlight (.roundtrip 0x807FFFFF#32 0#32 0#32) 1))).map
      (fun t => (t.raw, t.dec, t.val, t.status)) =
    some (some ⟨1#1, 0x00#8, 0x7FFFFF#23⟩, some ⟨0xBF800000#32, 0x00400000#32, 0x3FFFFFFF#32⟩,
      some 0x80800000#32, 0b1110#4) := by decide +kernel

/-- 95_test_vectors.md L2.4, the row 0xC2AFBD71: a normal comes back. -/
theorem test_roundtrip_normal : roundtripValue 0xC2AFBD71#32 = 0xC2AFBD71#32 := by decide +kernel

/-- 95_test_vectors.md L2.5: rounding up past the largest finite word, and just below it. -/
theorem test_round32_overflow :
    round32 0#1 (2 ^ 25 - 1) 103 = 0x7F800000#32 ∧ round32 0#1 (2 ^ 24 - 1) 104 = 0x7F7FFFFF#32 := by
  decide +kernel

/-- A request placed for the fetch runs at the very next step (log 16). -/
theorem test_fetch_extract :
    (nextOf (step (State.reset.withFetchWord 98 0x042AFBD710000000000000000))).map (fun t => (t.raw, t.status)) =
    some (some ⟨0#1, 0x85#8, 0x2FBD71#23⟩, 0b0010#4) := by decide +kernel

/-- The state after reset steps: nothing to do, nothing changes (60_exceptions.md R152). -/
theorem test_reset_idles : nextOf (step State.reset) = some State.reset := by decide +kernel

/-- READ RES_VALUE of a completed EXTRACT raises READ_NO_VALUE (95_test_vectors.md P4's last line). -/
theorem test_read_no_value :
    (nextOf (step (completed (.extract 1#32 0#32 0#32) [.read .resValue]))).map (fun t => t.faults) =
    some [.readNoValue .resValue] := by decide +kernel

/-- The CHECK that ends 95_test_vectors.md P3. -/
theorem test_check_mismatch :
    (nextOf (step (completed (.roundtrip 0x80000000#32 0#32 0#32) [.check]))).map (fun t => t.faults) =
    some [.hostRoundtripMismatch 0x80000000#32 0x80400000#32] := by decide +kernel

/-- A request presented while another is in flight waits on the port (95_test_vectors.md P4); changed there
it is the changed one that waits (70_reset_and_hazards.md R164). -/
theorem test_present_while_busy :
    (nextOf (step { inFlight (.roundtrip 0x3F800000#32 0#32 0#32) 2 with
      script := [.present (.extract 1#32 0#32 0#32) false], turn := .host })).map
      (fun t => (t.waits, t.busy, t.offered)) = some (true, true, .extract 1#32 0#32 0#32) ∧
    (nextOf (step { presented (.extract 1#32 0#32 0#32) with
      script := [.drive (.decode 2#32 0#32 0#32)], turn := .host })).map
      (fun t => (t.waits, t.offered)) = some (true, .decode 2#32 0#32 0#32) := by decide +kernel

/-- An issue is not enabled while BUSY is 1, and CHECK not before a ROUNDTRIP has completed
(70_reset_and_hazards.md R164, R170). -/
theorem test_not_enabled :
    (inFlight (.roundtrip 1#32 0#32 0#32) 2).stepEnabled (.issue (.extract 1#32 0#32 0#32)) = false ∧
    (inFlight (.roundtrip 1#32 0#32 0#32) 2).stepEnabled .check = false := by decide

/-- A host that goes on holding `req_valid` has its request accepted once more (70_reset_and_hazards.md
R165, 10_state.md R29; log 13). -/
theorem test_held_request :
    (nextOf (clockEdge (State.reset.present (.extract 1#32 0#32 0#32) true))).map
      (fun t => (t.busy, t.reqValid, t.waits, t.stepEnabled .release)) =
    some (true, true, false, true) := by decide +kernel

/-! ## Witnesses: each obligation's hypotheses are met -/

/-- The parts of the invariant, checked one by one on a concrete state. -/
theorem inv_of_parts {s : State}
    (h : (s.rawV = s.raw.isSome ∧ s.decV = s.dec.isSome ∧ s.valV = s.val.isSome) ∧
      ((s.busy = true ↔ 0 < s.left) ∧ (s.busy = true → s.raw = none ∧ s.dec = none ∧ s.val = none)) ∧
      ((s.raw = none ∧ s.dec = none ∧ s.val = none) ∨
        (s.raw = rawOf s.latched ∧ s.dec = decOf s.latched ∧ s.val = valOf s.latched)) ∧
      ((s.busy = true ∨ s.val.isSome = true → s.presented = some s.latched) ∧
        (s.val.isSome = true → (roundtripOperand s.presented).isSome = true →
          s.roundtripA = roundtripOperand s.presented))) :
    s.Inv := h

/-- A request of each kind, for the witnesses. -/
def anExtract : Instr := .extract 0xAAAAAAAA#32 0xFFFFFFFF#32 0x12345678#32
def aRoundtrip : Instr := .roundtrip 0x42AFBD71#32 0#32 0#32

theorem witness_EveryBundleIsARequest : (0 : Nat) < 2 ^ 98 ∧ 2 ^ 98 - 1 < 2 ^ 98 := by decide

theorem witness_IgnoredOperandsHaveNoEffect :
    (presented anExtract).rst = false ∧ (presented anExtract).busy = false ∧
    (presented anExtract).reqValid = true := by decide

theorem witness_StepRunsLatchedRequest :
    (inFlight aRoundtrip 1).rst = false ∧ (inFlight aRoundtrip 1).busy = true ∧
    (inFlight aRoundtrip 1).left ≤ 1 ∧ (inFlight aRoundtrip 1).hostMoves = false := by decide

theorem witness_FetchedRequestRunsNext : 0x342AFBD710000000000000000 % 2 ^ 98 < 2 ^ 98 := by decide

theorem witness_AcceptOnlyAtReadyEdge :
    ((presented anExtract).rst = false ∧ (presented anExtract).reqValid = true ∧
      (presented anExtract).busy = false) ∧
    (¬ (State.reset.rst = false ∧ State.reset.reqValid = true ∧ State.reset.busy = false) ∧
      ∃ t, clockEdge State.reset = .next t) ∧
    (¬ ((inFlight anExtract 1).rst = false ∧ (inFlight anExtract 1).reqValid = true ∧
        (inFlight anExtract 1).busy = false) ∧
      ∃ t, clockEdge (inFlight anExtract 1) = .next t) :=
  ⟨by decide, ⟨by decide, _, rfl⟩, ⟨by decide, _, rfl⟩⟩

theorem witness_BusyEdgeOnlyCountsDown :
    (inFlight aRoundtrip 2).rst = false ∧ (inFlight aRoundtrip 2).busy = true ∧
    1 < (inFlight aRoundtrip 2).left := by decide

theorem witness_CompleteFallsAtLatency :
    (presented aRoundtrip).script = [] ∧ (presented aRoundtrip).rstPlan = [] ∧
    (presented aRoundtrip).busy = false ∧ (presented aRoundtrip).reqValid = true ∧
    0 < Config.latency (presented aRoundtrip).reqOp (presented aRoundtrip).stream
      (presented aRoundtrip).fresh :=
  ⟨rfl, rfl, by decide, rfl, Nat.succ_pos _⟩

/-- A request in flight or on the port, with one edge of reset to come. -/
def resetting (s : State) : State := { s with rstPlan := [true] }

theorem witness_ResetWinsOverAcceptAndComplete :
    (resetting (inFlight aRoundtrip 1)).rst = true ∧ (resetting (presented aRoundtrip)).rst = true ∧
    (∃ t, clockEdge (resetting (presented aRoundtrip)) = .next t ∧ t.rst = false ∧ t.reqValid = true) :=
  ⟨by decide, by decide, _, rfl, rfl, rfl⟩

theorem witness_ResetAbandonsOperation :
    (resetting (inFlight aRoundtrip 1)).script = [] ∧ (resetting (inFlight aRoundtrip 1)).reqValid = false ∧
    (resetting (inFlight aRoundtrip 1)).faults = [] ∧
    (resetting (inFlight aRoundtrip 1)).rstPlan = List.replicate (0 + 1) true := by decide

theorem witness_IdleEdgeChangesNothing :
    State.reset.rst = false ∧ State.reset.busy = false ∧ State.reset.reqValid = false ∧
    State.reset.faults = [] := by decide

theorem witness_OperationInFlightIgnoresPorts :
    ((presented anExtract).rst = false ∧ (presented anExtract).busy = false ∧
      (presented anExtract).reqValid = true) ∧
    (inFlight aRoundtrip 1).rst = false ∧ (inFlight aRoundtrip 1).busy = true ∧
    ∃ t, clockEdge (inFlight aRoundtrip 1) = .next t :=
  ⟨by decide, by decide, by decide, _, rfl⟩

theorem witness_ExpValueIsPowerOfTwo : (0#8 ≠ 255#8) ∧ (254#8 ≠ 255#8) := by decide

theorem witness_AccumulatorSumsMantissaBits : (0 : Nat) ≤ 23 ∧ (23 : Nat) ≤ 23 := by decide

/-- The three ranges, at both ends; they exclude each other. -/
theorem witness_PowersOfTwo :
    ((-126 : Int) ≤ -126 ∧ (127 : Int) ≤ 127) ∧ ((-149 : Int) ≤ -149 ∧ (-127 : Int) ≤ -127) ∧
    (128 : Int) ≤ 128 ∧ pow2 (-126) = 0x00800000#32 ∧ pow2 127 = 0x7F000000#32 ∧
    pow2 (-149) = 0x00000001#32 ∧ pow2 (-127) = 0x00400000#32 ∧ pow2 128 = 0x7F800000#32 := by
  decide +kernel

theorem witness_RoundingKeepsFiniteWords :
    expField 0x00000000#32 ≠ 255#8 ∧ expField 0x00000001#32 ≠ 255#8 ∧ expField 0xFF7FFFFF#32 ≠ 255#8 := by
  decide

/-- The value of a word, from its three fields. -/
theorem val32_one : val32 0x3F800000#32 = .real 1 := by
  have h1 : expField 0x3F800000#32 = 127#8 := by decide
  have h2 : fracField 0x3F800000#32 = 0#23 := by decide
  have h3 : signField 0x3F800000#32 = 0#1 := by decide
  have h4 : (127#8 : BitVec 8) ≠ 255#8 := by decide
  have h5 : (127#8 : BitVec 8) ≠ 0#8 := by decide
  simp only [val32, sig32, signFactor, h1, h2, h3, h4, h5, if_false, if_true]
  norm_num

/-- Both sides of the overflow threshold: 2^128 - 2^103 itself, and the largest finite value. -/
theorem witness_RoundingIsToNearestEven :
    (2 : ℚ) ^ (128 : Int) - 2 ^ (103 : Int) ≤ ((2 ^ 25 - 1 : Nat) : ℚ) * 2 ^ (103 : Int) ∧
    ¬ (2 : ℚ) ^ (128 : Int) - 2 ^ (103 : Int) ≤ ((2 ^ 24 - 1 : Nat) : ℚ) * 2 ^ (104 : Int) ∧
    val32 0x3F800000#32 = .real 1 := by
  refine ⟨?_, ?_, val32_one⟩ <;> norm_num

/-- Each of the four causes of a NaN product, and a product that is none. -/
theorem witness_ProductNanExactlyWhere :
    isNaN 0x7FC00000#32 = true ∧
    (isInf 0x7F800000#32 = true ∧ isZero 0x80000000#32 = true) ∧
    isNaN (fmul32 0x3F800000#32 0x3F800000#32) = false := by decide +kernel

theorem witness_ProductOfInfinityAndZero :
    (isNaN 0xFF800000#32 = false ∧ isNaN 0x00000001#32 = false ∧ isInf 0xFF800000#32 = true ∧
      isZero 0x00000001#32 = false) ∧
    (isNaN 0x80000000#32 = false ∧ isNaN 0x7F7FFFFF#32 = false ∧ isZero 0x80000000#32 = true ∧
      isInf 0x7F7FFFFF#32 = false) := by decide

/-- Both sides of the overflow threshold: 1.0 × 1.0, and 2^127 × 2.0. -/
theorem witness_ProductRoundsExactProduct :
    (val32 0x3F800000#32 = .real 1 ∧
      ¬ (2 : ℚ) ^ (128 : Int) - 2 ^ (103 : Int) ≤ |(1 : ℚ) * 1|) ∧
    (val32 0x7F000000#32 = .real (2 ^ (127 : Int)) ∧ val32 0x40000000#32 = .real 2 ∧
      (2 : ℚ) ^ (128 : Int) - 2 ^ (103 : Int) ≤ |(2 : ℚ) ^ (127 : Int) * 2|) := by
  refine ⟨⟨val32_one, by norm_num⟩, ?_, ?_, by norm_num⟩
  · have h1 : expField 0x7F000000#32 = 254#8 := by decide
    have h2 : fracField 0x7F000000#32 = 0#23 := by decide
    have h3 : signField 0x7F000000#32 = 0#1 := by decide
    have h4 : (254#8 : BitVec 8) ≠ 255#8 := by decide
    have h5 : (254#8 : BitVec 8) ≠ 0#8 := by decide
    simp only [val32, sig32, signFactor, h1, h2, h3, h4, h5, if_false, if_true]
    norm_num
  · have h1 : expField 0x40000000#32 = 128#8 := by decide
    have h2 : fracField 0x40000000#32 = 0#23 := by decide
    have h3 : signField 0x40000000#32 = 0#1 := by decide
    have h4 : (128#8 : BitVec 8) ≠ 255#8 := by decide
    have h5 : (128#8 : BitVec 8) ≠ 0#8 := by decide
    simp only [val32, sig32, signFactor, h1, h2, h3, h4, h5, if_false, if_true]
    norm_num

theorem witness_ProductCommutes : isNaN (fmul32 0x3F800001#32 0x3FC00000#32) = false := by decide +kernel

theorem witness_ReconstructSignSymmetry :
    isNaN (reconstruct 0x3F800000#32 0x00400000#32 0x3F800001#32) = false := by decide +kernel

theorem witness_NormalsRoundTripExactly :
    isNormal 0x00800000#32 = true ∧ isNormal 0xFF7FFFFF#32 = true := by decide

/-- The accumulator of 95_test_vectors.md L1.1, after bit 0, after bit 13 and at its end. -/
theorem test_accumulator :
    (accRun 0x2FBD71#23 1).macc = 0x800001#24 ∧ (accRun 0x2FBD71#23 14).macc = 0x803D71#24 ∧
    (accFinal 0x2FBD71#23).macc = 0xAFBD71#24 := by decide +kernel

theorem witness_HiddenStateNeverShows : ∃ t, step (inFlight aRoundtrip 1) = .next t := ⟨_, rfl⟩

theorem witness_StepKeepsInvariant :
    (inFlight aRoundtrip 1).Inv ∧ ∃ t, step (inFlight aRoundtrip 1) = .next t :=
  ⟨inv_of_parts (by decide), _, rfl⟩

/-- Each group valid, in a state that meets the invariant. -/
theorem witness_ValidGroupIsLastResult :
    (completed aRoundtrip []).Inv ∧ (completed aRoundtrip []).rawV = true ∧
    (completed aRoundtrip []).decV = true ∧ (completed aRoundtrip []).valV = true :=
  ⟨inv_of_parts (by decide +kernel), by decide +kernel, by decide +kernel, by decide +kernel⟩

theorem witness_AcceptedOperationCompletes :
    (inFlight aRoundtrip 3).Inv ∧ (inFlight aRoundtrip 3).busy = true ∧
    (∀ x ∈ (inFlight aRoundtrip 3).rstPlan, x = false) ∧ HostStep.reset ∉ (inFlight aRoundtrip 3).script :=
  ⟨inv_of_parts (by decide), by decide, by decide, by decide⟩

theorem witness_FaultsStayRecorded :
    (∃ t, step State.reset = .next t) ∧ (State.reset.recordFault (.readNoValue .resSign)).faults ≠ [] :=
  ⟨⟨_, rfl⟩, by decide⟩

theorem witness_FaultOutcomeOnlyAtTheEnd :
    step (State.reset.recordFault (.readNoValue .resSign)) = .fault (.readNoValue .resSign) ∧
    ∃ t, clockEdge State.reset = .next t :=
  ⟨rfl, _, rfl⟩

/-- A READ that faults and a READ that returns a value, both with the host moving. -/
theorem witness_ReadOfInvalidGroupFaults :
    ((completed anExtract [.read .resValue]).Inv ∧ (completed anExtract [.read .resValue]).hostMoves = true ∧
      (completed anExtract [.read .resValue]).groupValid .resValue = false) ∧
    ((completed anExtract [.read .resSign]).Inv ∧ (completed anExtract [.read .resSign]).hostMoves = true ∧
      (completed anExtract [.read .resSign]).groupValid .resSign = true) ∧
    ((inFlight anExtract 1).Inv ∧ (inFlight anExtract 1).busy = true ∧ Reg.resSign ≠ Reg.status) ∧
    (∃ t, step (inFlight anExtract 1) = .next t ∧ (inFlight anExtract 1).groupValid .resSign = false ∧
      t.groupValid .resSign = true) ∧
    ((completed anExtract []).Inv ∧ decOf (completed anExtract []).latched = none ∧
      valOf (completed anExtract []).latched = none) ∧
    ((inFlight (.decode 1#32 0#32 0#32) 1).Inv ∧
      rawOf (inFlight (.decode 1#32 0#32 0#32) 1).latched = none) :=
  ⟨⟨inv_of_parts (by decide +kernel), by decide +kernel, by decide +kernel⟩,
    ⟨inv_of_parts (by decide +kernel), by decide +kernel, by decide +kernel⟩,
    ⟨inv_of_parts (by decide), by decide, by decide⟩,
    ⟨_, rfl, by decide, by decide +kernel⟩,
    ⟨inv_of_parts (by decide +kernel), by decide +kernel, by decide +kernel⟩,
    ⟨inv_of_parts (by decide), by decide⟩⟩

/-- Each kind of step of the host, moving. -/
theorem witness_HostStepsOnCoreAndPorts :
    (completed anExtract [.wait]).hostMoves = true ∧
    (completed aRoundtrip [.check]).hostMoves = true ∧
    (completed anExtract [.hold]).hostMoves = true ∧
    (completed anExtract [.read .resValue]).hostMoves = true ∧
    { inFlight anExtract 2 with script := [.present aRoundtrip true], turn := .host }.hostMoves = true ∧
    { presented anExtract with script := [.drive aRoundtrip], turn := .host }.hostMoves = true ∧
    { presented anExtract with reqHold := .accepted, script := [.release], turn := .host }.hostMoves = true ∧
    { inFlight anExtract 2 with script := [.reset], turn := .host }.hostMoves = true ∧
    (completed anExtract [.issue aRoundtrip]).hostMoves = true ∧
    (completed anExtract [.issue aRoundtrip]).hostHalted = false ∧
    (completed anExtract [.issue aRoundtrip]).turn = .host := by decide +kernel

/-- A WAIT that holds the host, and one that lets it go. -/
theorem witness_WaitHoldsHostWhileBusy :
    ({ inFlight anExtract 1 with script := [.wait], turn := .host }.busy = true) ∧
    ((completed anExtract [.wait]).busy = false ∧ (completed anExtract [.wait]).hostHalted = false ∧
      (completed anExtract [.wait]).turn = .host ∧ (completed anExtract [.wait]).hostMoves = true) := by
  decide +kernel

/-- A waiting request at an edge, with the host holding it, and one that the host changes. -/
theorem witness_HostWaitsForAccept :
    ((presented anExtract).waits = true ∧ (presented anExtract).hostMoves = false ∧
      ∃ t, step (presented anExtract) = .next t) ∧
    { presented anExtract with script := [.hold] }.waits = true ∧
    ({ presented anExtract with script := [.drive aRoundtrip], turn := .host }.waits = true ∧
      ∃ t, step { presented anExtract with script := [.drive aRoundtrip], turn := .host } = .next t) :=
  ⟨⟨by decide +kernel, by decide +kernel, _, rfl⟩, by decide +kernel, by decide +kernel, _, rfl⟩

/-- The COMPLETE of a ROUNDTRIP, a CHECK before one, and CHECK with RES_VALUE equal to A, different from A,
and holding no value. -/
theorem witness_CheckComparesResultWithOperand :
    ((inFlight aRoundtrip 1).Inv ∧ (inFlight aRoundtrip 1).rst = false ∧
      (inFlight aRoundtrip 1).busy = true ∧ (inFlight aRoundtrip 1).left ≤ 1 ∧
      (inFlight aRoundtrip 1).hostMoves = false ∧ (inFlight aRoundtrip 1).latched = aRoundtrip ∧
      ∃ t, step (inFlight aRoundtrip 1) = .next t) ∧
    (completed anExtract [.check]).roundtripA = none ∧
    ((completed aRoundtrip [.check]).roundtripA = some 0x42AFBD71#32 ∧
      (completed aRoundtrip [.check]).hostHalted = false ∧
      (completed aRoundtrip [.check]).turn = .host ∧
      (completed aRoundtrip [.check]).hostMoves = true ∧
      (completed aRoundtrip [.check]).val = some 0x42AFBD71#32) ∧
    ((completed (.roundtrip 0#32 0#32 0#32) [.check]).roundtripA = some 0#32 ∧
      (completed (.roundtrip 0#32 0#32 0#32) [.check]).hostMoves = true ∧
      (completed (.roundtrip 0#32 0#32 0#32) [.check]).val = some 0x00400000#32 ∧
      (0x00400000#32 : Word) ≠ 0#32) ∧
    ({ inFlight anExtract 1 with
        script := [.check], turn := .host, roundtripA := some 0#32 }.hostMoves = true ∧
      { inFlight anExtract 1 with
        script := [.check], turn := .host, roundtripA := some 0#32 }.val = none) :=
  ⟨⟨inv_of_parts (by decide), by decide, by decide, by decide, by decide, by decide, _, rfl⟩,
    by decide +kernel, by decide +kernel, by decide +kernel, by decide +kernel⟩

/-- An operand that passes and one that does not. -/
theorem witness_CheckPassesForNormalsAndInfinities :
    ((completed aRoundtrip [.check]).Inv ∧ (completed aRoundtrip [.check]).presented = some aRoundtrip ∧
      (completed aRoundtrip [.check]).val = some 0x42AFBD71#32 ∧
      (completed aRoundtrip [.check]).hostMoves = true) ∧
    ((completed (.roundtrip 0#32 0#32 0#32) [.check]).Inv ∧
      (completed (.roundtrip 0#32 0#32 0#32) [.check]).presented = some (.roundtrip 0#32 0#32 0#32) ∧
      (completed (.roundtrip 0#32 0#32 0#32) [.check]).val = some 0x00400000#32 ∧
      (completed (.roundtrip 0#32 0#32 0#32) [.check]).hostMoves = true) :=
  ⟨⟨inv_of_parts (by decide +kernel), by decide +kernel⟩, inv_of_parts (by decide +kernel),
    by decide +kernel⟩

/-- The host's steps of a pseudo-instruction's expansion, less the hold at its end. -/
def rawSteps : List HostStep :=
  [.wait, .read .resSign, .read .resExp, .read .resMant, .presentDecodeRead]

def decSteps : List HostStep :=
  [.wait, .read .resSunit, .read .resEval, .read .resMval, .presentReconstructRead]

/-- Both expansions with their group valid and not, and both requests made of values just read. -/
theorem witness_PseudoInstructionsChainStages :
    ((completed anExtract rawSteps).clockIdle = true ∧ (completed anExtract rawSteps).hostHalted = false ∧
      (completed anExtract rawSteps).script = .wait :: .read .resSign :: .read .resExp ::
        .read .resMant :: .presentDecodeRead :: [] ∧
      (completed anExtract rawSteps).raw = some ⟨1#1, 0x55#8, 0x2AAAAA#23⟩ ∧
      (completed (.decode 0#32 0#32 0#32) rawSteps).clockIdle = true ∧
      (completed (.decode 0#32 0#32 0#32) rawSteps).hostHalted = false ∧
      (completed (.decode 0#32 0#32 0#32) rawSteps).raw = none) ∧
    ((completed (.decode 0#32 0#32 0#32) decSteps).clockIdle = true ∧
      (completed (.decode 0#32 0#32 0#32) decSteps).hostHalted = false ∧
      (completed (.decode 0#32 0#32 0#32) decSteps).dec =
        some ⟨0x3F800000#32, 0x00400000#32, 0x3F800000#32⟩ ∧
      (completed anExtract decSteps).clockIdle = true ∧ (completed anExtract decSteps).hostHalted = false ∧
      (completed anExtract decSteps).dec = none) ∧
    ({ completed anExtract [.presentDecodeRead] with
        reads := [⟨.resMant, some 1#32⟩, ⟨.resExp, some 2#32⟩, ⟨.resSign, some 1#32⟩] }.hostMoves = true ∧
      rawTripleRead [⟨.resMant, some 1#32⟩, ⟨.resExp, some 2#32⟩, ⟨.resSign, some 1#32⟩] =
        some 0x81000001#32) ∧
    ({ completed anExtract [.presentReconstructRead] with
        reads := [⟨.resMval, some 1#32⟩, ⟨.resEval, some 2#32⟩, ⟨.resSunit, some 3#32⟩] }.hostMoves = true ∧
      decTripleRead [⟨.resMval, some 1#32⟩, ⟨.resEval, some 2#32⟩, ⟨.resSunit, some 3#32⟩] =
        some ⟨3#32, 2#32, 1#32⟩) := by
  decide +kernel

/-- Both ends of the three ranges, and one step past each. -/
theorem witness_DecodeFPacksItsFields :
    ((0 : Nat) ≤ 1 ∧ (0 : Nat) ≤ 255 ∧ (0 : Nat) ≤ 0x7FFFFF) ∧
    ((1 : Nat) ≤ 1 ∧ (255 : Nat) ≤ 255 ∧ (0x7FFFFF : Nat) ≤ 0x7FFFFF) ∧
    ¬ ((2 : Nat) ≤ 1 ∧ (0 : Nat) ≤ 255 ∧ (0 : Nat) ≤ 0x7FFFFF) ∧
    ¬ ((0 : Nat) ≤ 1 ∧ (256 : Nat) ≤ 255 ∧ (0 : Nat) ≤ 0x7FFFFF) ∧
    ¬ ((0 : Nat) ≤ 1 ∧ (0 : Nat) ≤ 255 ∧ (0x800000 : Nat) ≤ 0x7FFFFF) := by decide

theorem witness_InstancesAreIndependent :
    (∃ q, platformStep [State.reset, inFlight anExtract 1] 1 = .next q ∧ ∃ r, platformStep q 0 = .next r) ∧
    (0 : Nat) ≠ 1 :=
  ⟨⟨_, rfl, _, rfl⟩, by decide⟩

end Sys2Proof.Tests
end

section
/-! PROOF. Powers of two, and rounding: sign symmetry, finite words kept, to nearest with ties to even
(00_scope.md R12 to R15). -/

namespace Sys2Proof.Machine

/-! ### Packed words -/

/-- A packed word is the concatenation of its fields (00_scope.md R11). -/
theorem packWord_eq_append (s : BitVec 1) (e : BitVec 8) (f : BitVec 23) :
    packWord s e f = s ++ e ++ f := by
  apply BitVec.eq_of_getLsbD_eq
  intro i hi
  rw [packWord_getLsbD, BitVec.getLsbD_append, BitVec.getLsbD_append]
  by_cases h1 : i < 23
  · rw [if_pos h1, if_pos h1]
  by_cases h2 : i < 31
  · rw [if_neg h1, if_neg h1, if_pos h2, if_pos (show i - 23 < 8 by omega)]
  · rw [if_neg h1, if_neg h1, if_neg h2, if_neg (show ¬ i - 23 < 8 by omega), if_pos hi,
      Nat.sub_sub]

/-- A packed word as a number (00_scope.md R11). -/
theorem packWord_toNat (s : BitVec 1) (e : BitVec 8) (f : BitVec 23) :
    (packWord s e f).toNat = s.toNat * 2 ^ 31 + e.toNat * 2 ^ 23 + f.toNat := by
  rw [packWord_eq_append, BitVec.toNat_append, BitVec.toNat_append,
    ← Nat.shiftLeft_add_eq_or_of_lt f.isLt, ← Nat.shiftLeft_add_eq_or_of_lt e.isLt, Nat.shiftLeft_eq,
    Nat.shiftLeft_eq]
  ring

/-- The word of a number given by its exponent and fraction fields, with sign 0. -/
theorem packWord_positive {e f : Nat} (he : e < 2 ^ 8) (hf : f < 2 ^ 23) :
    packWord 0#1 (BitVec.ofNat 8 e) (BitVec.ofNat 23 f) = BitVec.ofNat 32 (e * 2 ^ 23 + f) := by
  apply BitVec.eq_of_toNat_eq
  rw [packWord_toNat, BitVec.toNat_ofNat, BitVec.toNat_ofNat, BitVec.toNat_ofNat, BitVec.toNat_ofNat,
    Nat.mod_eq_of_lt he, Nat.mod_eq_of_lt hf]
  omega

/-- Setting bit 31 turns the positive word of an exponent and a fraction into the negative one. -/
theorem packWord_negative (e : BitVec 8) (f : BitVec 23) :
    packWord 1#1 e f = packWord 0#1 e f ||| 0x80000000#32 := by
  have h0 : (0#1).zeroExtend 32 <<< 31 = 0#32 := rfl
  have h1 : (1#1).zeroExtend 32 <<< 31 = 0x80000000#32 := rfl
  rw [packWord, packWord, h0, h1, BitVec.zero_or, BitVec.or_assoc, BitVec.or_comm]

/-- The last bit of a packed word is the parity of the significand its fraction was taken from. -/
theorem packWord_lsb (s : BitVec 1) (e : BitVec 8) (m : Nat) :
    (packWord s e (BitVec.ofNat 23 m)).getLsbD 0 = decide (m % 2 = 1) := by
  rw [packWord_getLsbD, if_pos (by omega), BitVec.getLsbD_ofNat]
  simp [Nat.testBit_zero]

/-! ### Finite words (00_scope.md R12, R13) -/

/-- A significand has at most 24 bits, and its last bit weighs no less than 2^-149. -/
theorem sig32_bounds (w : Word) : (sig32 w).1 < 2 ^ 24 ∧ -149 ≤ (sig32 w).2 := by
  have hf := (fracField w).isLt
  unfold sig32
  split_ifs with he
  · exact ⟨by dsimp only; omega, le_refl _⟩
  · have : (expField w).toNat ≠ 0 := fun c => he (BitVec.eq_of_toNat_eq c)
    exact ⟨by dsimp only; omega, by dsimp only; omega⟩

/-- A word with another exponent field than 255 denotes a real number. -/
theorem val32_finite {w : Word} (h : expField w ≠ 255#8) :
    val32 w = .real (signFactor (signField w) * (sig32 w).1 * (2 : ℚ) ^ (sig32 w).2) := by
  rw [val32, if_neg h]

/-- Only such words denote a real number. -/
theorem val32_eq_real {w : Word} {p : ℚ} (h : val32 w = .real p) :
    expField w ≠ 255#8 ∧ signFactor (signField w) * (sig32 w).1 * (2 : ℚ) ^ (sig32 w).2 = p := by
  have he : expField w ≠ 255#8 := by
    intro he
    rw [val32, if_pos he] at h
    split_ifs at h
  rw [val32_finite he] at h
  exact ⟨he, Value.real.inj h⟩

/-- The word of a subnormal significand `r` denotes `r * 2 ^ -149`. -/
theorem val32_packWord_subnormal (s : BitVec 1) {r : Nat} (h : r < 2 ^ 23) :
    val32 (packWord s 0#8 (BitVec.ofNat 23 r)) = .real (signFactor s * r * (2 : ℚ) ^ (-149 : Int)) := by
  have hsig : sig32 (packWord s 0#8 (BitVec.ofNat 23 r)) = (r, -149) := by
    rw [sig32, packWord_expField, if_pos rfl, packWord_fracField, BitVec.toNat_ofNat,
      Nat.mod_eq_of_lt h]
  rw [val32_finite (by rw [packWord_expField]; decide), hsig, packWord_signField]

/-- The word of a normal significand `r` at exponent `q` denotes `r * 2 ^ q`. -/
theorem val32_packWord_normal (s : BitVec 1) {r : Nat} {q : Int} (h1 : 2 ^ 23 ≤ r) (h2 : r < 2 ^ 24)
    (h3 : -149 ≤ q) (h4 : q ≤ 104) :
    val32 (packWord s (BitVec.ofNat 8 (q + 150).toNat) (BitVec.ofNat 23 (r - 2 ^ 23))) =
      .real (signFactor s * r * (2 : ℚ) ^ q) := by
  have he : (BitVec.ofNat 8 (q + 150).toNat).toNat = (q + 150).toNat := by
    rw [BitVec.toNat_ofNat, Nat.mod_eq_of_lt (by omega)]
  have e0 : BitVec.ofNat 8 (q + 150).toNat ≠ 0#8 := by
    intro h; rw [h, BitVec.toNat_ofNat] at he; omega
  have e255 : BitVec.ofNat 8 (q + 150).toNat ≠ 255#8 := by
    intro h; rw [h, BitVec.toNat_ofNat] at he; omega
  have hsig : sig32 (packWord s (BitVec.ofNat 8 (q + 150).toNat) (BitVec.ofNat 23 (r - 2 ^ 23))) =
      (r, q) := by
    rw [sig32, packWord_expField, if_neg e0, packWord_fracField, he, BitVec.toNat_ofNat,
      Nat.mod_eq_of_lt (by omega), Nat.add_sub_of_le h1, Int.toNat_of_nonneg (by omega),
      add_sub_cancel_right]
  rw [val32_finite (by rwa [packWord_expField]), hsig, packWord_signField]

/-- A finite word's exact value rounds to that word, also with zero bits below its significand. -/
theorem round32_sig32_signField {w : Word} (h : expField w ≠ 255#8) (j : Nat) :
    round32 (signField w) ((sig32 w).1 * 2 ^ j) ((sig32 w).2 - j) = w := by
  rw [round32_sig32 _ j h, packWord_fields]

theorem signFactor_mul_self (s : BitVec 1) : signFactor s * signFactor s = 1 := by
  unfold signFactor; split_ifs <;> norm_num

theorem abs_signFactor (s : BitVec 1) : |signFactor s| = 1 := by
  unfold signFactor; split_ifs <;> norm_num

theorem signFactor_injective : Function.Injective signFactor := by
  have hbit : ∀ c : BitVec 1, c = 0#1 ∨ c = 1#1 := by decide
  intro a b h
  rcases hbit a with rfl | rfl <;> rcases hbit b with rfl | rfl
  · rfl
  · norm_num [signFactor] at h
  · norm_num [signFactor] at h
  · rfl

/-! ### The encoding of a rounded significand, case by case (00_scope.md R14) -/

section Encode
variable (s : BitVec 1)

theorem encodeRounded_subnormal {r : Nat} (h : r < 2 ^ 23) :
    encodeRounded s r (-149) = packWord s 0#8 (BitVec.ofNat 23 r) := by
  simp only [encodeRounded, if_neg (show ¬ r = 2 ^ 24 by omega)]
  rw [if_pos ⟨trivial, h⟩]

theorem encodeRounded_normal {r : Nat} {q : Int} (h1 : 2 ^ 23 ≤ r) (h2 : r < 2 ^ 24) (h : q ≤ 104) :
    encodeRounded s r q =
      packWord s (BitVec.ofNat 8 (q + 150).toNat) (BitVec.ofNat 23 (r - 2 ^ 23)) := by
  simp only [encodeRounded, if_neg (show ¬ r = 2 ^ 24 by omega)]
  rw [if_neg (by omega), if_neg (by omega)]

theorem encodeRounded_carry (q : Int) :
    encodeRounded s (2 ^ 24) q = encodeRounded s (2 ^ 23) (q + 1) := by
  simp only [encodeRounded, if_pos, if_neg (show ¬ 2 ^ 23 = 2 ^ 24 by omega)]

theorem encodeRounded_overflow {r : Nat} {q : Int} (h : 105 ≤ q ∨ q = 104 ∧ r = 2 ^ 24) :
    encodeRounded s r q = packWord s 255#8 0#23 := by
  unfold encodeRounded
  rcases h with h | ⟨rfl, rfl⟩
  · by_cases hr : r = 2 ^ 24
    · simp only [if_pos hr]
      rw [if_neg (by omega), if_pos (by omega)]
    · simp only [if_neg hr]
      rw [if_neg (by omega), if_pos (by omega)]
  · simp only [if_true]
    rw [if_neg (by omega), if_pos (by omega)]

/-- The value and the last bit of the word of a rounded significand, below the overflow. -/
theorem encodeRounded_finite {r : Nat} {q : Int} (hr : r ≤ 2 ^ 24) (hq : -149 ≤ q)
    (hs : r < 2 ^ 23 → q = -149) (ho : ¬ (105 ≤ q ∨ q = 104 ∧ r = 2 ^ 24)) :
    val32 (encodeRounded s r q) = .real (signFactor s * r * (2 : ℚ) ^ q) ∧
    (encodeRounded s r q).getLsbD 0 = decide (r % 2 = 1) := by
  rcases Nat.lt_or_ge r (2 ^ 23) with h1 | h1
  · obtain rfl := hs h1
    rw [encodeRounded_subnormal s h1]
    exact ⟨val32_packWord_subnormal s h1, packWord_lsb s _ r⟩
  rcases Nat.lt_or_ge r (2 ^ 24) with h2 | h2
  · rw [encodeRounded_normal s h1 h2 (by omega), packWord_lsb]
    refine ⟨val32_packWord_normal s h1 h2 hq (by omega), ?_⟩
    rw [decide_eq_decide]
    omega
  · obtain rfl : r = 2 ^ 24 := by omega
    rw [encodeRounded_carry, encodeRounded_normal s (by omega) (by omega) (by omega), packWord_lsb]
    refine ⟨?_, by decide⟩
    rw [val32_packWord_normal s (by omega) (by omega) (by omega) (by omega),
      zpow_add₀ two_ne_zero]
    norm_num
    ring

end Encode

/-- Only the sign bit of the encoding depends on the sign. -/
theorem encodeRounded_negative (r : Nat) (q : Int) :
    encodeRounded 1#1 r q = encodeRounded 0#1 r q ||| 0x80000000#32 := by
  unfold encodeRounded
  dsimp only
  split_ifs <;> exact packWord_negative _ _

/-! ### Rounding to the nearest integer, ties to even (00_scope.md R14) -/

/-- `r` is an integer nearest to `y`, and an even one where two are as near. -/
def NearestEven (y : ℚ) (r : Nat) : Prop :=
  |(r : ℚ) - y| ≤ 1 / 2 ∧ (|(r : ℚ) - y| = 1 / 2 → r % 2 = 0)

theorem nearestEven_self (r : Nat) : NearestEven r r := by
  unfold NearestEven
  norm_num

/-- No integer is nearer, and one that is as near is `r` itself unless `r` is even. -/
theorem NearestEven.le_abs {y : ℚ} {r : Nat} (h : NearestEven y r) (m : Int) :
    |(r : ℚ) - y| ≤ |(m : ℚ) - y| ∧ (|(r : ℚ) - y| = |(m : ℚ) - y| → (m : ℚ) ≠ r → r % 2 = 0) := by
  obtain ⟨hle, heven⟩ := h
  by_cases hm : m = r
  · subst hm
    exact ⟨le_refl _, fun _ hne => absurd rfl hne⟩
  · have hfar : (1 : ℚ) ≤ |(m : ℚ) - r| := by
      have : (1 : Int) ≤ |m - r| := Int.one_le_abs (by omega)
      exact_mod_cast this
    have htri : |(m : ℚ) - r| ≤ |(r : ℚ) - y| + |(m : ℚ) - y| := by
      rw [abs_sub_comm (r : ℚ) y, add_comm]
      exact abs_sub_le _ _ _
    exact ⟨by linarith, fun heq _ => heven (by linarith)⟩

/-- Rounding up from the middle between two integers on, in the middle itself only to an even one. -/
theorem nearestEven_succ {a : Nat} {t : ℚ} (h0 : 1 / 2 ≤ t) (h1 : t < 1) (htie : t = 1 / 2 → a % 2 = 1) :
    NearestEven (a + t) (a + 1) := by
  have hd : ((a + 1 : Nat) : ℚ) - (a + t) = 1 - t := by push_cast; ring
  rw [NearestEven, hd, abs_of_pos (by linarith)]
  refine ⟨by linarith, fun h => ?_⟩
  have := htie (by linarith)
  omega

/-- Rounding down up to the middle between two integers, in the middle itself only to an even one. -/
theorem nearestEven_floor {a : Nat} {t : ℚ} (h0 : 0 ≤ t) (h1 : t ≤ 1 / 2)
    (htie : t = 1 / 2 → a % 2 = 0) : NearestEven (a + t) a := by
  have hd : (a : ℚ) - (a + t) = -t := by ring
  rw [NearestEven, hd, abs_neg, abs_of_nonneg h0]
  exact ⟨h1, htie⟩

/-- The bits that a right shift keeps and the ones it drops, as an integer and a part of 1. -/
theorem div_two_pow_eq_shiftRight_add (n j : Nat) :
    (n : ℚ) / 2 ^ j = (n >>> j : Nat) + ((n % 2 ^ j : Nat) : ℚ) / 2 ^ j := by
  rw [div_eq_iff (by positivity), add_mul, div_mul_cancel₀ _ (by positivity), Nat.shiftRight_eq_div_pow]
  exact_mod_cast (Nat.div_add_mod' n (2 ^ j)).symm

theorem shiftRoundEven_nearestEven (n : Nat) {j : Nat} (hj : j ≠ 0) :
    NearestEven ((n : ℚ) / 2 ^ j) (shiftRoundEven n j) := by
  have hpow : (2 : ℚ) ^ j = 2 * ((2 ^ (j - 1) : Nat) : ℚ) := by
    obtain ⟨i, rfl⟩ := Nat.exists_eq_succ_of_ne_zero hj
    push_cast
    exact pow_succ' 2 i
  have hlt : ((n % 2 ^ j : Nat) : ℚ) / 2 ^ j < 1 := by
    rw [div_lt_one (by positivity)]
    exact_mod_cast Nat.mod_lt n (by positivity)
  have hup : 2 ^ (j - 1) < n % 2 ^ j ↔ 1 / 2 < ((n % 2 ^ j : Nat) : ℚ) / 2 ^ j := by
    rw [lt_div_iff₀ (by positivity), ← Nat.cast_lt (α := ℚ), hpow]; ring_nf
  have htie : n % 2 ^ j = 2 ^ (j - 1) ↔ ((n % 2 ^ j : Nat) : ℚ) / 2 ^ j = 1 / 2 := by
    rw [div_eq_iff (by positivity), ← Nat.cast_inj (R := ℚ), hpow]; ring_nf
  rw [div_two_pow_eq_shiftRight_add, shiftRoundEven]
  split_ifs with hc
  · refine nearestEven_succ ?_ hlt fun h => ?_
    · rcases hc with h | ⟨h, -⟩
      · exact (hup.1 h).le
      · exact (htie.1 h).ge
    · exact (hc.resolve_left fun h' => (hup.1 h').ne' h).2
  · push Not at hc
    obtain ⟨hle, heven⟩ := hc
    refine nearestEven_floor (by positivity) (not_lt.1 fun h => (hup.2 h).not_ge hle) fun h => ?_
    have := heven (htie.2 h)
    omega

theorem roundedSig_nearestEven (n : Nat) (shift : Int) :
    NearestEven ((n : ℚ) / 2 ^ shift) (roundedSig n shift) := by
  rcases lt_or_ge 0 shift with h | h
  · obtain ⟨j, rfl⟩ := Int.eq_ofNat_of_zero_le h.le
    rw [roundedSig, if_neg (by omega), Int.toNat_natCast, zpow_natCast]
    exact shiftRoundEven_nearestEven n (by omega)
  · obtain ⟨j, hj⟩ := Int.eq_ofNat_of_zero_le (show 0 ≤ -shift by omega)
    obtain rfl : shift = -j := by omega
    have hval : (n : ℚ) / 2 ^ (-(j : Int)) = (n <<< j : Nat) := by
      rw [zpow_neg, div_inv_eq_mul, zpow_natCast, Nat.shiftLeft_eq]
      push_cast
      rfl
    rw [roundedSig, if_pos h, neg_neg, Int.toNat_natCast, hval]
    exact nearestEven_self _

/-! ### What a rounding is -/

/-- `r * 2 ^ q` is the magnitude `x` rounded in units of `2 ^ q`, and these units are the ones of binary32
for `x`: `x` has at most 24 bits above them, and fewer only at 2^-149 (00_scope.md R14). -/
structure Rounding (x : ℚ) (r : Nat) (q : Int) : Prop where
  nearest : NearestEven (x / 2 ^ q) r
  exp_ge : -149 ≤ q
  lt : x / 2 ^ q < 2 ^ 24
  ge_of_normal : q ≠ -149 → 2 ^ 23 ≤ x / 2 ^ q

/-- Dropping `roundShift` bits of a number other than 0 is such a rounding. -/
theorem rounding_roundShift {n : Nat} (hn : n ≠ 0) (k : Int) :
    Rounding (n * 2 ^ k) (roundedSig n (roundShift n k)) (k + roundShift n k) := by
  obtain ⟨hlo, hhi⟩ := (Nat.log2_eq_iff hn).1 rfl
  have hlo' : (2 : ℚ) ^ (Nat.log2 n : Int) ≤ n := by exact_mod_cast hlo
  have hhi' : (n : ℚ) < 2 ^ ((Nat.log2 n : Int) + 1) := by exact_mod_cast hhi
  have hscale : (n : ℚ) * 2 ^ k / 2 ^ (k + roundShift n k) = n / 2 ^ roundShift n k := by
    rw [zpow_add₀ two_ne_zero]
    field_simp
  have hupper : Nat.log2 n + 1 ≤ 24 + roundShift n k := by unfold roundShift; split_ifs <;> omega
  refine ⟨?_, ?_, ?_, fun hq => ?_⟩
  · rw [hscale]
    exact roundedSig_nearestEven n _
  · unfold roundShift; split_ifs <;> omega
  · rw [hscale, div_lt_iff₀ (by positivity)]
    calc (n : ℚ) < 2 ^ ((Nat.log2 n : Int) + 1) := hhi'
      _ ≤ 2 ^ (24 + roundShift n k) := zpow_le_zpow_right₀ one_le_two hupper
      _ = 2 ^ 24 * 2 ^ roundShift n k := zpow_add₀ two_ne_zero 24 _
  · have hshift : 23 + roundShift n k = Nat.log2 n := by
      unfold roundShift at hq ⊢
      split_ifs at hq ⊢ <;> omega
    rw [hscale, le_div_iff₀ (by positivity)]
    calc (2 : ℚ) ^ 23 * 2 ^ roundShift n k = 2 ^ (23 + roundShift n k) :=
          (zpow_add₀ two_ne_zero 23 _).symm
      _ ≤ n := by rw [hshift]; exact hlo'

/-- `round32` encodes such a rounding, under either sign (00_scope.md R14). -/
theorem round32_encodes_rounding (n : Nat) (k : Int) :
    ∃ (r : Nat) (q : Int), Rounding (n * 2 ^ k) r q ∧ ∀ s, round32 s n k = encodeRounded s r q := by
  by_cases hn : n = 0
  · subst hn
    refine ⟨0, -149, ⟨?_, by omega, by norm_num, fun h => absurd rfl h⟩, fun s => ?_⟩
    · simpa using nearestEven_self 0
    · rw [round32, if_pos rfl, encodeRounded_subnormal s (by omega)]
  · exact ⟨_, _, rounding_roundShift hn k, fun s => by rw [round32, if_neg hn]⟩

/-- A magnitude from its number of units. -/
theorem eq_div_mul_two_zpow (x : ℚ) (q : Int) : x = x / 2 ^ q * 2 ^ q :=
  (div_mul_cancel₀ x (by positivity)).symm

namespace Rounding
variable {x : ℚ} {r : Nat} {q : Int} (h : Rounding x r q)
include h

/-- A rounded normal significand has 24 bits, before its carry is taken back. -/
theorem exp_eq_of_lt (hr : r < 2 ^ 23) : q = -149 := by
  by_contra hq
  have hy := h.ge_of_normal hq
  have hle := (abs_le.1 h.nearest.1).1
  have hr' : (r : ℚ) + 1 ≤ 2 ^ 23 := by exact_mod_cast hr
  linarith

theorem sig_le : r ≤ 2 ^ 24 := by
  have hle := (abs_le.1 h.nearest.1).2
  have hlt := h.lt
  have : (r : ℚ) < 2 ^ 24 + 1 := by linarith
  exact Nat.lt_succ_iff.1 (by exact_mod_cast this)

/-- The significand carries exactly from the middle below 2^24 on: 2^24 - 1 is odd. -/
theorem sig_eq_iff : r = 2 ^ 24 ↔ 2 ^ 24 - 1 / 2 ≤ x / 2 ^ q := by
  obtain ⟨hle, heven⟩ := h.nearest
  constructor
  · rintro rfl
    have := (abs_le.1 hle).2
    push_cast at this
    linarith
  · intro hy
    have hlo : (2 : ℚ) ^ 24 - 1 ≤ r := by linarith [(abs_le.1 hle).1]
    have hlo' : 2 ^ 24 - 1 ≤ r := by
      have : (2 : ℚ) ^ 24 ≤ r + 1 := by linarith
      have : 2 ^ 24 ≤ r + 1 := by exact_mod_cast this
      omega
    by_contra hne
    obtain rfl : r = 2 ^ 24 - 1 := by have := h.sig_le; omega
    have hhalf : |((2 ^ 24 - 1 : Nat) : ℚ) - x / 2 ^ q| = 1 / 2 := by
      refine le_antisymm hle (le_trans ?_ (neg_le_abs _))
      push_cast
      linarith
    exact absurd (heven hhalf) (by decide)

/-- Overflow of the rounding, as a threshold on the exact magnitude (00_scope.md R14). -/
theorem overflow_iff :
    (2 : ℚ) ^ (128 : Int) - 2 ^ (103 : Int) ≤ x ↔ 105 ≤ q ∨ q = 104 ∧ r = 2 ^ 24 := by
  rcases lt_trichotomy q 104 with hq | rfl | hq
  · have hx : x < 2 ^ (128 : Int) - 2 ^ (103 : Int) := by
      calc x = x / 2 ^ q * 2 ^ q := eq_div_mul_two_zpow x q
        _ < 2 ^ 24 * 2 ^ q := mul_lt_mul_of_pos_right h.lt (by positivity)
        _ ≤ 2 ^ 24 * 2 ^ (103 : Int) :=
          mul_le_mul_of_nonneg_left (zpow_le_zpow_right₀ one_le_two (by omega)) (by positivity)
        _ < 2 ^ (128 : Int) - 2 ^ (103 : Int) := by norm_num
    exact ⟨fun hle => absurd hx hle.not_gt, fun hc => by omega⟩
  · rw [h.sig_eq_iff, le_div_iff₀ (by positivity)]
    norm_num
  · have hx : (2 : ℚ) ^ (128 : Int) - 2 ^ (103 : Int) ≤ x := by
      calc (2 : ℚ) ^ (128 : Int) - 2 ^ (103 : Int) ≤ 2 ^ 23 * 2 ^ (105 : Int) := by norm_num
        _ ≤ 2 ^ 23 * 2 ^ q :=
          mul_le_mul_of_nonneg_left (zpow_le_zpow_right₀ one_le_two hq) (by positivity)
        _ ≤ x / 2 ^ q * 2 ^ q :=
          mul_le_mul_of_nonneg_right (h.ge_of_normal (by omega)) (by positivity)
        _ = x := (eq_div_mul_two_zpow x q).symm
    exact ⟨fun _ => .inl hq, fun _ => hx⟩

/-- In the rounding's units, a number of at most 24 bits at an exponent of binary32 is no nearer to the
exact magnitude than the rounded significand, and is as near only if that is even or the number itself. -/
theorem le_abs_scaled {m e : Int} (hm : |m| < 2 ^ 24) (he : -149 ≤ e) :
    |(r : ℚ) - x / 2 ^ q| ≤ |(m : ℚ) * 2 ^ (e - q) - x / 2 ^ q| ∧
    (|(r : ℚ) - x / 2 ^ q| = |(m : ℚ) * 2 ^ (e - q) - x / 2 ^ q| → (m : ℚ) * 2 ^ (e - q) ≠ r →
      r % 2 = 0) := by
  rcases lt_or_ge e q with hlt | hge
  · -- a coarser unit than the number's: the number lies below 2^23, which is itself an integer
    have hy := h.ge_of_normal (by omega)
    have hm' : (m : ℚ) < 2 ^ 24 := by exact_mod_cast (abs_lt.1 hm).2
    have hz : (m : ℚ) * 2 ^ (e - q) < 2 ^ 23 := by
      calc (m : ℚ) * 2 ^ (e - q) < 2 ^ 24 * 2 ^ (e - q) := mul_lt_mul_of_pos_right hm' (by positivity)
        _ ≤ 2 ^ 24 * 2 ^ (-1 : Int) :=
          mul_le_mul_of_nonneg_left (zpow_le_zpow_right₀ one_le_two (by omega)) (by positivity)
        _ = 2 ^ 23 := by norm_num
    have hr := (h.nearest.le_abs (2 ^ 23)).1
    rw [Int.cast_pow, Int.cast_ofNat,
      abs_of_nonpos (by linarith : (2 : ℚ) ^ 23 - x / 2 ^ q ≤ 0)] at hr
    rw [abs_of_neg (by linarith : (m : ℚ) * 2 ^ (e - q) - x / 2 ^ q < 0)]
    exact ⟨by linarith, fun heq => by linarith⟩
  · -- the number is an integer in the rounding's units
    obtain ⟨i, hi⟩ := Int.eq_ofNat_of_zero_le (show 0 ≤ e - q by omega)
    have hint : (m : ℚ) * 2 ^ (e - q) = ((m * 2 ^ i : Int) : ℚ) := by
      rw [hi]; push_cast; rw [zpow_natCast]
    rw [hint]
    exact h.nearest.le_abs _

/-- The same with the numbers themselves, in place of the rounding's units. -/
theorem le_abs {m e : Int} (hm : |m| < 2 ^ 24) (he : -149 ≤ e) :
    |(r : ℚ) * 2 ^ q - x| ≤ |(m : ℚ) * 2 ^ e - x| ∧
    (|(r : ℚ) * 2 ^ q - x| = |(m : ℚ) * 2 ^ e - x| → (m : ℚ) * 2 ^ e ≠ r * 2 ^ q → r % 2 = 0) := by
  have hpos : (0 : ℚ) < 2 ^ q := by positivity
  have hunit : ∀ z : ℚ, |z * 2 ^ q - x| = |z - x / 2 ^ q| * 2 ^ q := fun z => by
    rw [← abs_of_pos hpos, ← abs_mul, abs_of_pos hpos, sub_mul, ← eq_div_mul_two_zpow x q]
  have hz : (m : ℚ) * 2 ^ e = m * 2 ^ (e - q) * 2 ^ q := by
    rw [mul_assoc, ← zpow_add₀ two_ne_zero, sub_add_cancel]
  obtain ⟨hle, heven⟩ := h.le_abs_scaled hm he
  rw [hz, hunit, hunit]
  refine ⟨mul_le_mul_of_nonneg_right hle hpos.le, fun heq hne => ?_⟩
  exact heven (mul_right_cancel₀ hpos.ne' heq) fun hc => hne (by rw [hc])

end Rounding

/-! ### Finite words by their values (00_scope.md R12, R13) -/

/-- The value of a finite word, and that value negated, are numbers of at most 24 bits at an exponent of
binary32. -/
theorem signed_val32_eq {w : Word} {p : ℚ} (h : val32 w = .real p) (s : BitVec 1) :
    ∃ m e : Int, |m| < 2 ^ 24 ∧ -149 ≤ e ∧ signFactor s * p = m * 2 ^ e := by
  obtain ⟨-, rfl⟩ := val32_eq_real h
  obtain ⟨hlt, hge⟩ := sig32_bounds w
  have hsign : signFactor s * signFactor (signField w) = 1 ∨
      signFactor s * signFactor (signField w) = -1 := by
    unfold signFactor; split_ifs <;> norm_num
  rcases hsign with hs | hs
  · refine ⟨(sig32 w).1, (sig32 w).2, by rw [Nat.abs_cast]; exact_mod_cast hlt, hge, ?_⟩
    rw [← mul_assoc, ← mul_assoc, hs, one_mul, Int.cast_natCast]
  · refine ⟨-(sig32 w).1, (sig32 w).2, by rw [abs_neg, Nat.abs_cast]; exact_mod_cast hlt, hge, ?_⟩
    rw [← mul_assoc, ← mul_assoc, hs, neg_one_mul, Int.cast_neg, Int.cast_natCast]

/-- Finite words of one sign and one magnitude are one word: both are its rounding. -/
theorem word_eq_of_magnitude_eq {v w : Word} (hv : expField v ≠ 255#8) (hw : expField w ≠ 255#8)
    (hs : signField v = signField w)
    (hmag : ((sig32 v).1 : ℚ) * 2 ^ (sig32 v).2 = (sig32 w).1 * 2 ^ (sig32 w).2) : v = w := by
  wlog hle : (sig32 v).2 ≤ (sig32 w).2 generalizing v w
  · exact (this hw hv hs.symm hmag.symm (by omega)).symm
  obtain ⟨j, hj⟩ := Int.eq_ofNat_of_zero_le (show 0 ≤ (sig32 w).2 - (sig32 v).2 by omega)
  have hexp : (sig32 v).2 = (sig32 w).2 - j := by omega
  have hsig : (sig32 v).1 = (sig32 w).1 * 2 ^ j := by
    have hpos : (2 : ℚ) ^ (sig32 v).2 ≠ 0 := by positivity
    rw [show (sig32 w).2 = j + (sig32 v).2 by omega, zpow_add₀ two_ne_zero, ← mul_assoc,
      zpow_natCast] at hmag
    exact_mod_cast mul_right_cancel₀ hpos hmag
  calc v = round32 (signField v) ((sig32 v).1 * 2 ^ 0) ((sig32 v).2 - (0 : Nat)) :=
        (round32_sig32_signField hv 0).symm
    _ = round32 (signField w) ((sig32 w).1 * 2 ^ j) ((sig32 w).2 - j) := by
        rw [hs, pow_zero, mul_one, Nat.cast_zero, sub_zero, hsig, hexp]
    _ = w := round32_sig32_signField hw j

/-- No two words denote one real number, but for the two zeros (00_scope.md R12). -/
theorem word_eq_of_val32_eq {v w : Word} {p : ℚ} (hv : val32 v = .real p) (hw : val32 w = .real p)
    (hp : p ≠ 0) : v = w := by
  obtain ⟨hve, hvp⟩ := val32_eq_real hv
  obtain ⟨hwe, hwp⟩ := val32_eq_real hw
  have habs : ∀ u : Word, |signFactor (signField u) * (sig32 u).1 * 2 ^ (sig32 u).2| =
      ((sig32 u).1 : ℚ) * 2 ^ (sig32 u).2 := fun u => by
    rw [mul_assoc, abs_mul, abs_signFactor, one_mul, abs_of_nonneg (by positivity)]
  have hmag := (habs v).symm.trans ((congrArg abs (hvp.trans hwp.symm)).trans (habs w))
  refine word_eq_of_magnitude_eq hve hwe ?_ hmag
  have hfactor : signFactor (signField v) = signFactor (signField w) := by
    have hne : ((sig32 w).1 : ℚ) * 2 ^ (sig32 w).2 ≠ 0 := by
      rw [← habs w, hwp]; exact abs_ne_zero.2 hp
    rw [← hwp, mul_assoc, mul_assoc, hmag] at hvp
    exact mul_right_cancel₀ hne hvp
  exact signFactor_injective hfactor

/-! ### Powers of two (00_scope.md R15) -/

/-- The shift of the number 1 drops no bit where binary32 holds the power of two. -/
theorem pow2_eq_encodeRounded {k : Int} {j : Nat} (h : roundShift 1 k = -j) :
    pow2 k = encodeRounded 0#1 (2 ^ j) (k - j) := by
  rw [pow2, round32, if_neg one_ne_zero, h, roundedSig, if_pos (by omega), neg_neg, Int.toNat_natCast,
    Nat.one_shiftLeft, sub_eq_add_neg]

theorem pow2_normal {k : Int} (h : -126 ≤ k) : pow2 k = encodeRounded 0#1 (2 ^ 23) (k - 23) := by
  refine pow2_eq_encodeRounded (j := 23) ?_
  have hlog : Nat.log2 1 = 0 := by decide
  rw [roundShift, hlog, if_pos (by omega)]
  rfl

theorem pow2_subnormal {k : Int} (h1 : -149 ≤ k) (h2 : k < -126) :
    pow2 k = encodeRounded 0#1 (2 ^ (k + 149).toNat) (-149) := by
  have hlog : Nat.log2 1 = 0 := by decide
  have hshift : roundShift 1 k = -((k + 149).toNat : Int) := by
    rw [roundShift, hlog, if_neg (by omega)]; omega
  rw [pow2_eq_encodeRounded hshift]
  congr 1
  omega

/-! ### The obligations -/

/-- Settles O29: `round32` encodes a rounding in the units of binary32, and every finite word's value is a
number of 24 bits at an exponent of binary32. -/
theorem roundingIsToNearestEven : Obligations.RoundingIsToNearestEven := by
  intro s n k
  obtain ⟨r, q, hround, henc⟩ := round32_encodes_rounding n k
  rw [henc s]
  split_ifs with hover
  · exact encodeRounded_overflow s (hround.overflow_iff.1 hover)
  obtain ⟨hval, hlsb⟩ := encodeRounded_finite s hround.sig_le hround.exp_ge hround.exp_eq_of_lt
    (hover ∘ hround.overflow_iff.2)
  refine ⟨_, hval, fun w p hw => ?_⟩
  obtain ⟨m, e, hm, he, hp⟩ := signed_val32_eq hw s
  obtain ⟨hle, heven⟩ := hround.le_abs hm he
  have hsq := signFactor_mul_self s
  have hp' : p = signFactor s * (m * 2 ^ e) := by rw [← hp, ← mul_assoc, hsq, one_mul]
  have hdist : ∀ z : ℚ, |signFactor s * z - signFactor s * n * 2 ^ k| = |z - n * 2 ^ k| := fun z => by
    rw [mul_assoc, ← mul_sub, abs_mul, abs_signFactor, one_mul]
  rw [hlsb, hp', mul_assoc (signFactor s) (r : ℚ), hdist, hdist]
  refine ⟨hle, fun hne heq => decide_eq_false ?_⟩
  by_cases hsame : (m : ℚ) * 2 ^ e = r * 2 ^ q
  · -- another word of the same value: the value is 0
    have hzero : signFactor s * r * (2 : ℚ) ^ q = 0 := by
      by_contra hnz
      refine hne (word_eq_of_val32_eq ?_ hval hnz)
      rw [hw, hp', hsame, mul_assoc]
    have hr0 : r = 0 := by
      have h1 : signFactor s ≠ 0 := left_ne_zero_of_mul_eq_one hsq
      have h2 : (2 : ℚ) ^ q ≠ 0 := by positivity
      simpa [h1, h2] using hzero
    omega
  · have := heven heq hsame
    omega

/-- Settles O27: what is encoded does not depend on the sign, and the encoding puts it in bit 31. -/
theorem roundingSignSymmetric : Obligations.RoundingSignSymmetric := by
  intro n k
  obtain ⟨r, q, -, henc⟩ := round32_encodes_rounding n k
  rw [henc, henc, encodeRounded_negative]

/-- Settles O28: rounding a finite word's significand gives back the word's own fields. -/
theorem roundingKeepsFiniteWords : Obligations.RoundingKeepsFiniteWords := by
  intro w h
  simpa using round32_sig32_signField h 0

/-- Settles O26: the rounding drops no bit of a power of two from 2^-149 to 2^127, and overflows above. -/
theorem powersOfTwo : Obligations.PowersOfTwo := by
  intro k
  refine ⟨fun h1 h2 => ?_, fun h1 h2 => ?_, fun h => ?_⟩
  · rw [pow2_normal h1, encodeRounded_normal _ (le_refl _) (by omega) (by omega), Nat.sub_self,
      packWord_positive (by omega) (by omega), Nat.add_zero, show k - 23 + 150 = k + 127 by omega]
  · have hlt : 2 ^ (k + 149).toNat < 2 ^ 23 := Nat.pow_lt_pow_right (by omega) (by omega)
    rw [pow2_subnormal h1 (by omega), encodeRounded_subnormal _ hlt, packWord_positive (by omega) hlt,
      Nat.zero_mul, Nat.zero_add]
  · rw [pow2_normal (by omega), encodeRounded_overflow _ (.inl (by omega))]
    decide

end Sys2Proof.Machine
end

section
/-! PROOF. The steps ACCEPT and COMPLETE, the state after reset, the invariant, and what the results and
the visible state depend on (10_state.md). -/

namespace Sys2Proof.Machine

/-! ### One rising edge, one equation per case (10_state.md R29, R30) -/

section Edge
variable {s : State}

theorem clockEdge_of_complete (hrst : s.rst = false) (hbusy : s.busy = true) (hleft : s.left ≤ 1) :
    clockEdge s = exec s.latched s.passEdge.noteCompleted := by
  simp [clockEdge, hrst, hbusy, hleft]

theorem clockEdge_of_countDown (hrst : s.rst = false) (hbusy : s.busy = true) (hleft : 1 < s.left) :
    clockEdge s = .next s.passEdge.countDown := by
  simp [clockEdge, hrst, hbusy, Nat.not_le.2 hleft]

theorem clockEdge_of_accept (hrst : s.rst = false) (hbusy : s.busy = false) (hvalid : s.reqValid = true) :
    clockEdge s = .next s.passEdge.accept := by
  simp [clockEdge, hrst, hbusy, hvalid]

theorem clockEdge_of_idle (hrst : s.rst = false) (hbusy : s.busy = false) (hvalid : s.reqValid = false) :
    clockEdge s = idleEdge s := by
  simp [clockEdge, hrst, hbusy, hvalid]

/-- An edge with nothing to do answers a next state unless a fault is recorded and no level of `rst` is to
come (log 10), and then only that level moves on (60_exceptions.md R152). -/
theorem idleEdge_eq_next_iff {t : State} :
    idleEdge s = .next t ↔ (s.rstPlan ≠ [] ∨ s.faults = []) ∧ t = s.passEdge := by
  cases hplan : s.rstPlan with
  | nil =>
    rw [State.passEdge_of_nil hplan]
    cases hfaults : s.faults <;> simp [idleEdge, hplan, hfaults, eq_comm]
  | cons b rest => simp [idleEdge, hplan, eq_comm]

/-- Where the host does not move, a step is the edge after the draw of the next turn (log 2). -/
theorem step_of_not_hostMoves (h : s.hostMoves = false) : step s = clockEdge s.drawTurn := by
  simp [step, h]

/-- A step is the effect of the host's next step, or a rising edge, both after the draw of the turn. -/
theorem step_effect_cases {t : State} (h : step s = .next t) :
    (∃ x rest, s.hostMoves = true ∧ s.script = x :: rest ∧
      t = { s.drawTurn with script := rest }.hostEffect x) ∨
    (s.hostMoves = false ∧ clockEdge s.drawTurn = .next t) := by
  rcases step_cases h with ⟨hmoves, -⟩ | hedge
  · obtain ⟨x, rest, hscript, -⟩ := State.hostMove_cases (State.hostReady_of_hostMoves hmoves)
    rw [step_of_hostMoves hmoves hscript] at h
    exact .inl ⟨x, rest, hmoves, hscript, (Host.Outcome.next.inj h).symm⟩
  · exact .inr hedge

end Edge

/-- The latency is at least 1 (00_scope.md R8). -/
theorem latency_pos (op : BitVec 2) (stream n : Nat) : 0 < Config.latency op stream n :=
  Nat.succ_pos _

/-- With no level of `rst` to come it is low. -/
theorem State.rst_of_nil {s : State} (h : s.rstPlan = []) : s.rst = false := by
  rw [State.rst, h]; rfl

theorem State.latched_eq_of_sameLatch {s t : State} (h : s.sameLatch t) : t.latched = s.latched := by
  obtain ⟨hop, ha, hb, hc⟩ := h
  rw [State.latched, State.latched, hop, ha, hb, hc]

/-- At a COMPLETE every group is NOVAL (10_state.md R29), so that after it the groups are exactly what the
request writes. -/
theorem exec_of_allNoval (i : Instr) {s : State} (h : s.allNoval) :
    ∃ t, exec i s = .next t ∧ t.busy = false ∧ t.raw = rawOf i ∧ t.dec = decOf i ∧ t.val = valOf i := by
  obtain ⟨hraw, hdec, hval⟩ := h
  obtain ⟨t, ht, traw, tdec, tval, -, -, -, hbusy, -⟩ := exec_cases i s
  exact ⟨t, ht, hbusy, by rw [traw, hraw, Option.or_none], by rw [tdec, hdec, Option.or_none],
    by rw [tval, hval, Option.or_none]⟩

/-! ### The invariant -/

namespace State.Inv

/-- With STATUS 0, every group NOVAL and nothing in flight, the invariant promises nothing (R34). -/
theorem of_cleared {s : State} (hstatus : s.status = 0#4) (hgroups : s.allNoval) (hleft : s.left = 0) :
    s.Inv := by
  obtain ⟨hraw, hdec, hval⟩ := hgroups
  have hbusy : s.busy = false := by rw [State.busy, hstatus]; rfl
  refine ⟨⟨?_, ?_, ?_⟩, ⟨?_, ?_⟩, .inl ⟨hraw, hdec, hval⟩, ?_, ?_⟩
  · rw [State.rawV, hstatus, hraw]; rfl
  · rw [State.decV, hstatus, hdec]; rfl
  · rw [State.valV, hstatus, hval]; rfl
  · simp [hbusy, hleft]
  · simp [hbusy]
  · simp [hbusy, hval]
  · simp [hval]

/-- The invariant speaks of STATUS, the groups, the latch, whether an edge is left and what the host
remembers of its requests, and of nothing else. -/
theorem congr {s t : State} (h : s.Inv) (hstatus : t.status = s.status) (hgroups : s.sameGroups t)
    (hlatch : s.sameLatch t) (hleft : 0 < t.left ↔ 0 < s.left) (hpres : t.presented = s.presented)
    (hrt : t.roundtripA = s.roundtripA) : t.Inv := by
  obtain ⟨hraw, hdec, hval⟩ := hgroups
  have hlatched := State.latched_eq_of_sameLatch hlatch
  simpa only [State.Inv, State.validBitsRight, State.busyRight, State.groupsRight, State.presentedRight,
    State.allNoval, State.busy, State.rawV, State.decV, State.valV, hstatus, hraw, hdec, hval, hlatched,
    hleft, hpres, hrt] using h

theorem of_sameCore {s t : State} (h : s.Inv) (hcore : s.sameCore t) (hpres : t.presented = s.presented)
    (hrt : t.roundtripA = s.roundtripA) : t.Inv := by
  obtain ⟨hstatus, hgroups, hlatch, -, hleft⟩ := hcore
  exact h.congr hstatus hgroups hlatch (by rw [hleft]) hpres hrt

end State.Inv

/-- A reset edge leads to the invariant from every state (70_reset_and_hazards.md R160). -/
theorem State.resetCore_inv (s : State) : s.resetCore.Inv := State.Inv.of_cleared rfl ⟨rfl, rfl, rfl⟩ rfl

/-- An ACCEPT leads to it from every state (10_state.md R29). -/
theorem State.accept_inv (s : State) : s.accept.Inv := by
  have hleft : 0 < s.accept.left := latency_pos _ _ _
  have hnoval : s.accept.allNoval := ⟨rfl, rfl, rfl⟩
  have hvalid : s.accept.validBitsRight := ⟨s.accept_rawV, s.accept_decV, s.accept_valV⟩
  exact ⟨hvalid, ⟨iff_of_true s.accept_busy hleft, fun _ => hnoval⟩, .inl hnoval, fun _ => rfl,
    fun hval => by simp at hval⟩

namespace State.Inv

/-- An edge before the COMPLETE keeps it. -/
theorem countDown {s : State} (h : s.Inv) (hleft : 1 < s.left) : s.countDown.Inv :=
  h.congr rfl ⟨rfl, rfl, rfl⟩ ⟨rfl, rfl, rfl, rfl⟩ (by rw [State.countDown_left]; omega) rfl rfl

/-- The COMPLETE of the operation in flight keeps it: the groups, NOVAL until then, take the results, and
the host, which remembers the request in flight, notes its A (10_state.md R30, 60_exceptions.md R144). -/
theorem complete {s t : State} (h : s.Inv) (hbusy : s.busy = true)
    (ht : exec s.latched s.noteCompleted = .next t) : t.Inv := by
  obtain ⟨⟨hrawV, hdecV, hvalV⟩, ⟨-, hnoval⟩, -, hpres, -⟩ := h
  obtain ⟨hraw, hdec, hval⟩ := hnoval hbusy
  obtain ⟨u, hu, uraw, udec, uval, urawV, udecV, uvalV, ubusy, uleft, ulatch, -, -, ⟨-, upres, urt, -⟩, -⟩ :=
    exec_cases s.latched s.noteCompleted
  obtain rfl : u = t := Host.Outcome.next.inj (hu.symm.trans ht)
  have hlatched : u.latched = s.latched := State.latched_eq_of_sameLatch ulatch
  simp only [State.noteCompleted_raw, State.noteCompleted_dec, State.noteCompleted_val, hraw, hdec, hval,
    Option.or_none] at uraw udec uval
  refine ⟨⟨?_, ?_, ?_⟩, ⟨?_, ?_⟩, .inr ?_, ?_, ?_⟩
  · simp [urawV, hrawV, hraw, uraw]
  · simp [udecV, hdecV, hdec, udec]
  · simp [uvalV, hvalV, hval, uval]
  · simp [ubusy, uleft]
  · simp [ubusy]
  · rw [hlatched]; exact ⟨uraw, udec, uval⟩
  · intro _; rw [upres, hlatched]; exact hpres (.inl hbusy)
  · intro _ hsome
    rw [upres] at hsome ⊢
    rw [urt]
    exact Option.or_of_isSome hsome

/-- Every rising edge keeps it. -/
theorem edge {s t : State} (h : s.Inv) (ht : clockEdge s = .next t) : t.Inv := by
  have hpass : s.passEdge.Inv := h.of_sameCore s.sameCore_refl rfl rfl
  rcases clockEdge_cases ht with ⟨-, rfl⟩ | ⟨-, hbusy, -, hexec⟩ | ⟨-, -, hleft, rfl⟩ | ⟨-, -, -, rfl⟩ |
    ⟨-, -, -, rfl⟩
  · exact State.resetCore_inv _
  · exact hpass.complete hbusy hexec
  · exact hpass.countDown hleft
  · exact State.accept_inv _
  · exact hpass

/-- Every step of the host keeps it. -/
theorem hostEffect {s : State} (h : s.Inv) (x : HostStep) : (s.hostEffect x).Inv := by
  rcases s.hostEffect_cases x with ⟨i, -, heq⟩ | ⟨-, heq⟩ | ⟨hcore, -, -, hpres, hrt⟩
  · rw [heq]; exact State.accept_inv _
  · rw [heq]; exact State.resetCore_inv _
  · exact h.of_sameCore hcore hpres hrt

end State.Inv

/-- Settles O45: STATUS 0, every group NOVAL, nothing in flight. -/
theorem resetMeetsInvariant : Obligations.ResetMeetsInvariant :=
  State.Inv.of_cleared rfl ⟨rfl, rfl, rfl⟩ rfl

/-- Settles O46: a step is a rising edge or a step of the host, after the draw of the turn. -/
theorem stepKeepsInvariant : Obligations.StepKeepsInvariant := by
  intro s t h hstep
  have hdraw : s.drawTurn.Inv := h.of_sameCore s.sameCore_refl rfl rfl
  rcases step_effect_cases hstep with ⟨x, rest, -, -, rfl⟩ | ⟨-, hedge⟩
  · have hrest : { s.drawTurn with script := rest }.Inv := hdraw.of_sameCore s.sameCore_refl rfl rfl
    exact hrest.hostEffect x
  · exact hdraw.edge hedge

/-! ### ACCEPT, the edges after it, COMPLETE -/

/-- Settles O8: the ready edge is the ACCEPT; the other edges are the cases of `clockEdge_cases` but it. -/
theorem acceptOnlyAtReadyEdge : Obligations.AcceptOnlyAtReadyEdge := by
  refine ⟨fun s hrst hvalid hbusy => ?_, fun s t hnot ht => ?_⟩
  · exact ⟨_, clockEdge_of_accept hrst hbusy hvalid, rfl, rfl, rfl, rfl, State.accept_busy _,
      State.accept_rawV _, State.accept_decV _, State.accept_valV _, ⟨rfl, rfl, rfl⟩,
      latency_pos _ _ _, rfl, rfl, rfl, rfl, rfl⟩
  rcases clockEdge_cases ht with ⟨hrst, rfl⟩ | ⟨hrst, hbusy, hleft, hexec⟩ | ⟨hrst, hbusy, hleft, rfl⟩ |
    ⟨hrst, hbusy, hvalid, -⟩ | ⟨hrst, hbusy, -, rfl⟩
  · exact ⟨by simp [hrst], s.sameRequestPort_refl, by simp [hrst]⟩
  · obtain ⟨u, hu, -, -, -, -, -, -, ubusy, -, ulatch, uport, -⟩ :=
      exec_cases s.latched s.passEdge.noteCompleted
    obtain rfl : u = t := Host.Outcome.next.inj (hu.symm.trans hexec)
    exact ⟨by simp [ubusy, Nat.not_lt.2 hleft], uport, fun _ => ulatch⟩
  · exact ⟨by simp [hrst, hbusy, hleft], s.sameRequestPort_refl, fun _ => ⟨rfl, rfl, rfl, rfl⟩⟩
  · exact absurd ⟨hrst, hvalid, hbusy⟩ hnot
  · exact ⟨by simp [hbusy], s.sameRequestPort_refl, fun _ => ⟨rfl, rfl, rfl, rfl⟩⟩

/-- Settles O9: such an edge counts down. -/
theorem busyEdgeOnlyCountsDown : Obligations.BusyEdgeOnlyCountsDown := by
  intro s hrst hbusy hleft
  have hcount : s.passEdge.countDown.left + 1 = s.left := by
    rw [State.countDown_left, State.passEdge_left]; omega
  exact ⟨_, clockEdge_of_countDown hrst hbusy hleft, hcount, rfl, ⟨rfl, rfl, rfl⟩, ⟨rfl, rfl, rfl, rfl⟩,
    s.sameRequestPort_refl, rfl, rfl, rfl, rfl, rfl⟩

/-- An operation is in flight, with no host step left and no reset to come. -/
def State.runsAlone (s : State) : Prop :=
  s.script = [] ∧ s.rstPlan = [] ∧ s.busy = true ∧ s.allNoval

namespace State.runsAlone

/-- Before the COMPLETE a step counts down. -/
theorem step_countDown {s : State} (h : s.runsAlone) (hleft : 1 < s.left) :
    step s = .next s.countDown ∧ s.countDown.runsAlone := by
  obtain ⟨hscript, hplan, hbusy, hnoval⟩ := h
  have hrst : s.rst = false := State.rst_of_nil hplan
  refine ⟨?_, hscript, hplan, hbusy, hnoval⟩
  rw [step_of_nil hscript, clockEdge_of_countDown hrst hbusy hleft, State.passEdge_of_nil hplan]

/-- At the last edge a step is the COMPLETE. -/
theorem step_complete {s : State} (h : s.runsAlone) (hleft : s.left = 1) :
    ∃ t, step s = .next t ∧ t.busy = false ∧ t.raw = rawOf s.latched ∧ t.dec = decOf s.latched ∧
      t.val = valOf s.latched := by
  obtain ⟨hscript, hplan, hbusy, hnoval⟩ := h
  have hrst : s.rst = false := State.rst_of_nil hplan
  rw [step_of_nil hscript, clockEdge_of_complete hrst hbusy (by omega)]
  exact exec_of_allNoval _ hnoval

/-- It stays in flight while edges are left. -/
theorem run_inFlight {s : State} (h : s.runsAlone) {k : Nat} (hk : k < s.left) :
    ∃ t, Sys2Proof.core.run k s = .next t ∧ t.busy = true ∧ t.allNoval := by
  induction k generalizing s with
  | zero =>
    obtain ⟨-, -, hbusy, hnoval⟩ := h
    exact ⟨s, rfl, hbusy, hnoval⟩
  | succ k ih =>
    obtain ⟨hstep, hrun⟩ := h.step_countDown (by omega)
    rw [run_succ k hstep]
    exact ih hrun (by rw [State.countDown_left]; omega)

/-- It has completed once the edges that were left have passed. -/
theorem run_complete {s : State} (h : s.runsAlone) {n : Nat} (hn : s.left = n + 1) :
    ∃ t, Sys2Proof.core.run (n + 1) s = .next t ∧ t.busy = false ∧ t.raw = rawOf s.latched ∧
      t.dec = decOf s.latched ∧ t.val = valOf s.latched := by
  induction n generalizing s with
  | zero =>
    obtain ⟨t, hstep, hdone⟩ := h.step_complete hn
    exact ⟨t, run_succ 0 hstep, hdone⟩
  | succ n ih =>
    obtain ⟨hstep, hrun⟩ := h.step_countDown (by omega)
    rw [run_succ (n + 1) hstep]
    exact ih hrun (by rw [State.countDown_left]; omega)

end State.runsAlone

/-- Settles O10: the ACCEPT puts LAT_op edges between itself and the COMPLETE, and each edge takes one off. -/
theorem completeFallsAtLatency : Obligations.CompleteFallsAtLatency := by
  intro s hscript hplan hbusy hvalid
  have hrst : s.rst = false := State.rst_of_nil hplan
  have hstep : step s = .next s.accept := by
    rw [step_of_nil hscript, clockEdge_of_accept hrst hbusy hvalid, State.passEdge_of_nil hplan]
  have halone : s.accept.runsAlone := ⟨hscript, hplan, s.accept_busy, rfl, rfl, rfl⟩
  refine ⟨fun k hk => ?_, ?_⟩
  · rw [Nat.add_comm, run_succ k hstep]
    exact halone.run_inFlight hk
  · rw [Nat.add_comm, run_succ _ hstep]
    exact halone.run_complete rfl

/-- Settles O6: the host does not move, and the edge is the latched request's COMPLETE. -/
theorem stepRunsLatchedRequest : Obligations.StepRunsLatchedRequest := by
  intro s hrst hbusy hleft hmoves
  rw [step_of_not_hostMoves hmoves]
  exact clockEdge_of_complete hrst hbusy hleft

theorem State.withFetchWord_busy (s : State) (nbits w : Nat) : (s.withFetchWord nbits w).busy = true :=
  show statusAccepted.getLsbD 0 = true by decide

/-- A placed request has the clock's turn, and the clock something to do. -/
theorem State.withFetchWord_hostMoves (s : State) (nbits w : Nat) :
    (s.withFetchWord nbits w).hostMoves = false := by
  have hturn : (s.withFetchWord nbits w).turn = .edge := rfl
  simp [State.hostMoves, State.clockIdle, hturn, s.withFetchWord_busy]

/-- Settles O7: a placed request is in the latch at its last edge. -/
theorem fetchedRequestRunsNext : Obligations.FetchedRequestRunsNext := by
  intro s nbits w hw
  have hstep : step (s.withFetchWord nbits w) = exec (s.withFetchWord nbits w).latched _ :=
    stepRunsLatchedRequest (s.withFetchWord nbits w) s.holdRstLow_rst
      (s.withFetchWord_busy nbits w) (le_refl 1) (s.withFetchWord_hostMoves nbits w)
  obtain ⟨t, ht, -, -, -, -, -, -, hbusy, -⟩ := exec_cases (s.withFetchWord nbits w).latched
    (s.withFetchWord nbits w).drawTurn.passEdge.noteCompleted
  exact ⟨_, t, if_pos hw, rfl, hstep, hstep.trans ht, hbusy⟩

/-- Settles O13, register by register. -/
theorem resetStateIsLaunch : Obligations.ResetStateIsLaunch := by
  refine ⟨⟨rfl, ⟨rfl, rfl, rfl⟩, rfl, rfl⟩, rfl, rfl, fun r => ?_, rfl⟩
  cases r <;> rfl

/-! ### What the results depend on (10_state.md R22) -/

/-- A group after a COMPLETE: what the request writes there, or what it held. -/
theorem eq_or_iff_written_or_kept {α : Type} {written before after : Option α} :
    after = written.or before ↔
      (∀ x, written = some x → after = some x) ∧ (written = none → after = before) := by
  cases written <;> simp

/-- Settles O43: `exec_cases` gives the groups from the request, wherever it writes one. -/
theorem resultsDependOnRequestOnly : Obligations.ResultsDependOnRequestOnly := by
  intro i s s'
  obtain ⟨t, ht, hraw, hdec, hval, -⟩ := exec_cases i s
  obtain ⟨t', ht', hraw', hdec', hval', -⟩ := exec_cases i s'
  rw [eq_or_iff_written_or_kept] at hraw hdec hval hraw' hdec' hval'
  exact ⟨t, t', ht, ht', fun g h => ⟨hraw.1 g h, hraw'.1 g h⟩, fun d h => ⟨hdec.1 d h, hdec'.1 d h⟩,
    fun v h => ⟨hval.1 v h, hval'.1 v h⟩, fun h => ⟨hraw.2 h, hraw'.2 h⟩,
    fun h => ⟨hdec.2 h, hdec'.2 h⟩, fun h => ⟨hval.2 h, hval'.2 h⟩⟩

/-! ### What the hidden state does not reach (10_state.md R33) -/

/-- The two states differ at most in the hidden state. -/
def State.sameButHidden (s t : State) : Prop := ∃ m i u, t = s.withHidden m i u

section Hidden
variable (s : State) (m : BitVec 24) (i : BitVec 5) (u : BitVec 9)

theorem State.sameButHidden_refl : s.sameButHidden s := ⟨s.macc, s.iter, s.uexp, rfl⟩

/-- A COMPLETE stirs the hidden state, so it answers the same from every one. -/
theorem exec_withHidden (r : Instr) : exec r (s.withHidden m i u) = exec r s := by
  cases r <;> rfl

theorem State.readReg_withHidden (r : Reg) : (s.withHidden m i u).readReg r = s.readReg r := by
  cases r <;> rfl

/-- A READ returns what it returned. -/
theorem State.hostRead_withHidden (r : Reg) :
    (s.withHidden m i u).hostRead r = (s.hostRead r).withHidden m i u := by
  unfold State.hostRead
  rw [State.readReg_withHidden]
  cases s.readReg r <;> rfl

/-- A CHECK finds what it found. -/
theorem State.hostCheck_withHidden :
    (s.withHidden m i u).hostCheck = s.hostCheck.withHidden m i u := by
  simp only [State.hostCheck, State.withHidden]
  split
  · rfl
  · split <;> rfl
  · rfl

/-- No step of the host sees it. -/
theorem State.hostEffect_withHidden (x : HostStep) :
    (s.hostEffect x).sameButHidden ((s.withHidden m i u).hostEffect x) := by
  cases x with
  | issue r => exact State.sameButHidden_refl _
  | reset => exact State.sameButHidden_refl _
  | read r => exact ⟨m, i, u, s.hostRead_withHidden m i u r⟩
  | check => exact ⟨m, i, u, s.hostCheck_withHidden m i u⟩
  | present r keep => exact ⟨m, i, u, rfl⟩
  | drive r => exact ⟨m, i, u, rfl⟩
  | hold => exact ⟨m, i, u, rfl⟩
  | release => exact ⟨m, i, u, rfl⟩
  | wait => exact ⟨m, i, u, rfl⟩
  | presentDecodeRead =>
    simp only [State.hostEffect, State.withHidden]
    split <;> exact ⟨m, i, u, rfl⟩
  | presentReconstructRead =>
    simp only [State.hostEffect, State.withHidden]
    split <;> exact ⟨m, i, u, rfl⟩

/-- Nor does it say whether the host moves. -/
theorem State.hostMoves_withHidden : (s.withHidden m i u).hostMoves = s.hostMoves := rfl

/-- Nor what an edge with nothing to do answers. -/
theorem idleEdge_withHidden {s t : State} (h : idleEdge s = .next t) :
    idleEdge (s.withHidden m i u) = .next (t.withHidden m i u) := by
  obtain ⟨hgoes, rfl⟩ := idleEdge_eq_next_iff.1 h
  exact idleEdge_eq_next_iff.2 ⟨hgoes, rfl⟩

/-- No edge sees it: each stirs it, leaves it alone or draws it anew. -/
theorem clockEdge_withHidden {s t : State} (h : clockEdge s = .next t) :
    ∃ v, t.sameButHidden v ∧ clockEdge (s.withHidden m i u) = .next v := by
  rcases clockEdge_cases h with ⟨hrst, rfl⟩ | ⟨hrst, hbusy, hleft, hexec⟩ | ⟨hrst, hbusy, hleft, rfl⟩ |
    ⟨hrst, hbusy, hvalid, rfl⟩ | ⟨hrst, hbusy, hvalid, -⟩
  · exact ⟨_, State.sameButHidden_refl _, if_pos hrst⟩
  · refine ⟨t, State.sameButHidden_refl t, ?_⟩
    exact (clockEdge_of_complete (s := s.withHidden m i u) hrst hbusy hleft).trans
      ((exec_withHidden s.passEdge.noteCompleted m i u s.latched).trans hexec)
  · exact ⟨_, State.sameButHidden_refl _, clockEdge_of_countDown hrst hbusy hleft⟩
  · exact ⟨_, State.sameButHidden_refl _, clockEdge_of_accept hrst hbusy hvalid⟩
  · rw [clockEdge_of_idle hrst hbusy hvalid] at h
    exact ⟨_, ⟨m, i, u, rfl⟩, (clockEdge_of_idle (s := s.withHidden m i u) hrst hbusy hvalid).trans
      (idleEdge_withHidden m i u h)⟩

end Hidden

/-- Settles O44: neither the host's move nor the edge sees the hidden state. -/
theorem hiddenStateNeverShows : Obligations.HiddenStateNeverShows := by
  intro s t m i u h
  rcases step_effect_cases h with ⟨x, rest, hmoves, hscript, rfl⟩ | ⟨hmoves, hedge⟩
  · have hmoves' : (s.withHidden m i u).hostMoves = true := (s.hostMoves_withHidden m i u).trans hmoves
    obtain ⟨m', i', u', heq⟩ := State.hostEffect_withHidden { s.drawTurn with script := rest } m i u x
    exact ⟨m', i', u', (step_of_hostMoves hmoves' hscript).trans (congrArg _ heq)⟩
  · have hmoves' : (s.withHidden m i u).hostMoves = false := (s.hostMoves_withHidden m i u).trans hmoves
    obtain ⟨_, ⟨m', i', u', rfl⟩, heq⟩ := clockEdge_withHidden m i u hedge
    exact ⟨m', i', u', (step_of_not_hostMoves hmoves').trans heq⟩

end Sys2Proof.Machine
end

section
/-! PROOF. What a valid bit promises, and the independence of the instances (20_memory.md R45, R48). -/

namespace Sys2Proof.Machine

/-! ### Valid groups (20_memory.md R45) -/

/-- Once any group holds a value, the operation has completed and every group is as its request leaves
it: the invariant knows no state between all groups NOVAL and all results standing. -/
theorem State.Inv.results_of_not_allNoval {s : State} (h : s.Inv) (hsome : ¬ s.allNoval) :
    s.busy = false ∧ s.raw = rawOf s.latched ∧ s.dec = decOf s.latched ∧ s.val = valOf s.latched := by
  obtain ⟨-, ⟨-, hnoval⟩, hgroups, -⟩ := h
  exact ⟨Bool.eq_false_iff.2 (mt hnoval hsome), hgroups.resolve_left hsome⟩

/-- Settles O47: the valid bits say which groups hold a value. With every group NOVAL all three are 0;
otherwise the results stand. -/
theorem validGroupIsLastResult : Obligations.ValidGroupIsLastResult := by
  intro s h
  have ⟨⟨hrawV, hdecV, hvalV⟩, _⟩ := h
  rw [hrawV, hdecV, hvalV]
  by_cases hnoval : s.allNoval
  · obtain ⟨hraw, hdec, hval⟩ := hnoval
    simp [hraw, hdec, hval]
  · obtain ⟨hbusy, hraw, hdec, hval⟩ := h.results_of_not_allNoval hnoval
    simp [hbusy, ← hraw, ← hdec, ← hval, Option.isSome_iff_exists]

/-! ### Instances (20_memory.md R48) -/

/-- A step of the `k`-th CORE writes at `k` what the state there, if there is one, steps to; past the end
of the platform the write is no write. -/
theorem platformStep_eq_next_iff {p q : Platform} {k : Nat} :
    platformStep p k = .next q ↔ ∃ t, q = p.set k t ∧ ∀ s, p[k]? = some s → step s = .next t := by
  unfold platformStep
  cases hk : p[k]? with
  | none =>
    have hset : ∀ t, p.set k t = p := fun t => List.set_eq_of_length_le (List.getElem?_eq_none_iff.1 hk)
    simp only [hset, reduceCtorEq, false_implies, implies_true, and_true, Host.Outcome.next.injEq]
    exact ⟨fun h => ⟨State.reset, h.symm⟩, fun ⟨_, h⟩ => h.symm⟩
  | some s =>
    simp only [Option.some.injEq, forall_eq']
    cases step s <;> simp [eq_comm]

/-- Settles O59: the two steps write different places of the list, and neither reads the other's. -/
theorem instancesAreIndependent : Obligations.InstancesAreIndependent := by
  intro p q k j hstep hne
  obtain ⟨t, rfl, ht⟩ := platformStep_eq_next_iff.1 hstep
  have hframe : (p.set k t)[j]? = p[j]? := List.getElem?_set_ne hne.symm
  refine ⟨hframe, fun r hr => ?_⟩
  obtain ⟨v, rfl, hv⟩ := platformStep_eq_next_iff.1 hr
  rw [hframe] at hv
  refine ⟨p.set j v, platformStep_eq_next_iff.2 ⟨v, rfl, hv⟩, platformStep_eq_next_iff.2 ⟨t, ?_, ?_⟩⟩
  · exact List.set_comm t v hne.symm
  · rwa [List.getElem?_set_ne hne]

end Sys2Proof.Machine
end

section
/-! PROOF. The bundle and its request (30_encoding.md R50 to R54, R58), the packed raw triple (R52), and the
pseudo-instructions (R57). -/

namespace Sys2Proof

/-! ### Bundles (30_encoding.md R50, R51) -/

/-- Settles O2: each of the four fields reads back what was put there. -/
theorem decodeOfEncode : Obligations.DecodeOfEncode := by
  intro i
  rw [decode, encode, bundleOp_append, bundleA_append, bundleB_append, bundleC_append,
    Machine.decodeFields_parts]

/-- A bundle is its four fields, with no bit between them (30_encoding.md R50). -/
theorem bundle_fields (w : BitVec 98) : bundleOp w ++ bundleA w ++ bundleB w ++ bundleC w = w := by
  apply BitVec.eq_of_getLsbD_eq
  intro i hi
  rw [bundle_getLsbD]
  simp only [bundleOp, bundleA, bundleB, bundleC, BitVec.getLsbD_extractLsb']
  split_ifs with hc hb ha
  · simp [hc]
  · simp [show i - 32 < 32 by omega, show 32 + (i - 32) = i by omega]
  · simp [show i - 64 < 32 by omega, show 64 + (i - 64) = i by omega]
  · simp [show i - 96 < 2 by omega, show 96 + (i - 96) = i by omega]

/-- Settles O3: the request keeps the four fields, and they are the whole bundle. -/
theorem encodeOfDecode : Obligations.EncodeOfDecode := by
  intro w
  obtain ⟨hop, ha, hb, hc⟩ := decodeFields_op (bundleOp w) (bundleA w) (bundleB w) (bundleC w)
  rw [encode, decode, hop, ha, hb, hc, bundle_fields]

/-- No request is ill-formed (30_encoding.md R54). -/
theorem Instr.wellFormed_eq_true (i : Instr) : i.wellFormed = true := by
  cases i <;> rfl

/-- A number of at most 98 bits is a bundle, and the table's decoder decodes it (30_encoding.md R54). -/
theorem decodeTableWord_of_lt {w : Nat} (h : w < 2 ^ 98) :
    decodeTableWord 98 w = some (decode (BitVec.ofNat 98 w)) := by
  rw [decodeTableWord, Nat.mod_eq_of_lt h, if_pos h]

/-- Settles O4: the bundle's request encodes to it again (O3) and completes in every state. -/
theorem everyBundleIsARequest : Obligations.EveryBundleIsARequest := by
  intro w hw
  refine ⟨decode (BitVec.ofNat 98 w), decodeTableWord_of_lt hw, Instr.wellFormed_eq_true _, ?_,
    fun s => ?_⟩
  · rw [encodeOfDecode, BitVec.toNat_ofNat, Nat.mod_eq_of_lt hw]
  · obtain ⟨t, ht, -⟩ := Machine.exec_cases (decode (BitVec.ofNat 98 w)) s
    exact ⟨t, ht⟩

/-- Settles O1: closed bundles, evaluated. -/
theorem printedRequestsDecode : Obligations.PrintedRequestsDecode := by
  unfold Obligations.PrintedRequestsDecode
  decide

end Sys2Proof

namespace Sys2Proof.Machine

/-- Settles O5: ACCEPT latches the whole port, and the three meanings do not name B and C. -/
theorem ignoredOperandsHaveNoEffect : Obligations.IgnoredOperandsHaveNoEffect :=
  ⟨fun _ hrst hbusy hvalid => ⟨_, clockEdge_of_accept hrst hbusy hvalid, rfl, rfl⟩,
    fun _ _ _ _ _ _ => ⟨rfl, rfl, rfl⟩⟩

/-! ### The raw triple and its packed word (30_encoding.md R52, 40_extract.md R70) -/

/-- A shift and a mask that is 1 on the bits kept pick these bits of a word. -/
theorem setWidth_shift_mask (w mask : Word) (start len : Nat) (h : ∀ i < len, mask.getLsbD i = true) :
    (w >>> start &&& mask).setWidth len = w.extractLsb' start len := by
  apply BitVec.eq_of_getLsbD_eq
  intro i hi
  simp [hi, h i hi]

/-- The extractor takes a word's three fields (40_extract.md R70). -/
theorem extractFields_eq (w : Word) : extractFields w = ⟨signField w, expField w, fracField w⟩ := by
  have hsign : (w >>> 31 &&& 0x1#32).setWidth 1 = signField w := setWidth_shift_mask w _ 31 1 (by decide)
  have hexp : (w >>> 23 &&& 0xFF#32).setWidth 8 = expField w := setWidth_shift_mask w _ 23 8 (by decide)
  have hfrac : (w &&& 0x7FFFFF#32).setWidth 23 = fracField w := by
    have h := setWidth_shift_mask w 0x7FFFFF#32 0 23 (by decide)
    rwa [BitVec.ushiftRight_zero] at h
  rw [extractFields, hsign, hexp, hfrac]

/-- A raw triple is packed as a word's three fields are (00_scope.md R11). -/
theorem packTriple_eq_packWord (g : RawGroup) : packTriple g = packWord g.sign g.exp g.mant := rfl

/-- Settles O19: the fields of a packed word are the ones it was packed from. -/
theorem packedTripleUnpacks : Obligations.PackedTripleUnpacks := by
  intro g
  rw [packTriple_eq_packWord, extractFields_eq, packWord_signField, packWord_expField,
    packWord_fracField]

/-- The range the assembler checks (30_encoding.md R57). -/
theorem fitsTriple_eq_true_iff {s e m : Nat} :
    fitsTriple s e m = true ↔ s ≤ 1 ∧ e ≤ 255 ∧ m ≤ 0x7FFFFF := by
  simp [fitsTriple, and_assoc]

/-- Settles O57: in range no field loses a bit, so the word is the sum and unpacks to the fields (O19). -/
theorem decodeFPacksItsFields : Obligations.DecodeFPacksItsFields := by
  refine ⟨fun s e m hs he hm => ?_, fun s e m h => ?_⟩
  · have hsign : (BitVec.ofNat 1 s).toNat = s := Nat.mod_eq_of_lt (by omega)
    have hexp : (BitVec.ofNat 8 e).toNat = e := Nat.mod_eq_of_lt (by omega)
    have hmant : (BitVec.ofNat 23 m).toNat = m := Nat.mod_eq_of_lt (by omega)
    refine ⟨packTriple ⟨BitVec.ofNat 1 s, BitVec.ofNat 8 e, BitVec.ofNat 23 m⟩,
      if_pos (fitsTriple_eq_true_iff.2 ⟨hs, he, hm⟩), ?_, ?_⟩
    · rw [packTriple_eq_packWord, packWord_toNat, hsign, hexp, hmant]
    · rw [packedTripleUnpacks]
      exact ⟨hsign, hexp, hmant⟩
  · exact if_neg (mt fitsTriple_eq_true_iff.1 h)

/-! ### A host alone with an idle clock (60_exceptions.md R142, 70_reset_and_hazards.md R170) -/

/-- With nothing for the clock to do the host takes any step that is enabled (log 2). -/
theorem State.hostMoves_of_clockIdle {s : State} {x : HostStep} {rest : List HostStep}
    (hidle : s.clockIdle = true) (hlive : s.hostHalted = false) (hscript : s.script = x :: rest)
    (henabled : s.stepEnabled x = true) : s.hostMoves = true := by
  simp [State.hostMoves, State.hostReady, hscript, hidle, hlive, henabled]

/-- A step that is not enabled holds the host (70_reset_and_hazards.md R170). -/
theorem State.hostMoves_of_not_enabled {s : State} {x : HostStep} {rest : List HostStep}
    (hscript : s.script = x :: rest) (h : s.stepEnabled x = false) : s.hostMoves = false := by
  simp [State.hostMoves, State.hostReady, hscript, h]

/-- An idle clock has no operation in flight and no request on the port. -/
theorem State.busy_reqValid_of_clockIdle {s : State} (h : s.clockIdle = true) :
    s.busy = false ∧ s.reqValid = false := by
  simp only [State.clockIdle, Bool.and_eq_true, Bool.not_eq_true'] at h
  exact ⟨h.1.2, h.2⟩

/-- What a READ of each of the registers returns, newest first. -/
def State.readResults (s : State) (rs : List Reg) : List ReadResult :=
  (rs.map fun r => ⟨r, s.readReg r⟩).reverse

/-- The faults of these READs, newest first (60_exceptions.md R142). -/
def State.readFaults (s : State) (rs : List Reg) : List Fault :=
  ((rs.filter fun r => (s.readReg r).isNone).map .readNoValue).reverse

theorem State.readResults_cons (s : State) (r : Reg) (rs : List Reg) :
    s.readResults (r :: rs) = s.readResults rs ++ [⟨r, s.readReg r⟩] := by
  simp [State.readResults]

theorem State.readFaults_cons (s : State) (r : Reg) (rs : List Reg) :
    s.readFaults (r :: rs) = s.readFaults rs ++ s.readFaults [r] := by
  cases h : s.readReg r <;> simp [State.readFaults, h]

theorem State.readFaults_of_values {s : State} {rs : List Reg} (h : ∀ r ∈ rs, s.readReg r ≠ none) :
    s.readFaults rs = [] := by
  simpa [State.readFaults] using h

theorem State.readFaults_of_none {s : State} {rs : List Reg} (h : ∀ r ∈ rs, s.readReg r = none) :
    s.readFaults rs = (rs.map .readNoValue).reverse := by
  rw [State.readFaults, List.filter_eq_self.2 fun r hr => by rw [h r hr]; rfl]

/-- A READ adds its result, and its fault if there is one, and does nothing else. -/
theorem State.hostRead_eq (s : State) (r : Reg) :
    s.hostRead r =
      { s with reads := s.readResults [r] ++ s.reads, faults := s.readFaults [r] ++ s.faults } := by
  cases h : s.readReg r with
  | some v => rw [State.hostRead_some h]; simp [State.readResults, State.readFaults, h]
  | none => rw [State.hostRead_none h]; simp [State.readResults, State.readFaults, h, State.recordFault]

/-- The state with other steps left to the host, other READs and faults behind it, and other draws of the
turn: all that a WAIT and a READ can change. -/
def State.withHost (s : State) (script : List HostStep) (reads : List ReadResult) (faults : List Fault)
    (fresh : Nat) (turn : Turn) : State :=
  { s with script := script, reads := reads, faults := faults, fresh := fresh, turn := turn }

theorem State.withHost_readReg (s : State) (script : List HostStep) (reads : List ReadResult)
    (faults : List Fault) (fresh : Nat) (turn : Turn) (r : Reg) :
    (s.withHost script reads faults fresh turn).readReg r = s.readReg r := by
  cases r <;> rfl

/-- READ_NO_VALUE does not halt the host (log 11). -/
theorem State.hostHalted_withHost_readFaults (s : State) (script : List HostStep)
    (reads : List ReadResult) (rs : List Reg) (fresh : Nat) (turn : Turn) :
    (s.withHost script reads (s.readFaults rs ++ s.faults) fresh turn).hostHalted = s.hostHalted := by
  have hno : (s.readFaults rs).any Fault.isMismatch = false := by
    simp [State.readFaults, Fault.isMismatch]
  show (s.readFaults rs ++ s.faults).any Fault.isMismatch = s.faults.any Fault.isMismatch
  rw [List.any_append, hno, Bool.false_or]

/-- A READ with an idle clock. -/
theorem step_read {s : State} {r : Reg} {rest : List HostStep} (hidle : s.clockIdle = true)
    (hlive : s.hostHalted = false) (hscript : s.script = .read r :: rest) :
    step s = .next (s.withHost rest (s.readResults [r] ++ s.reads) (s.readFaults [r] ++ s.faults)
      s.drawTurn.fresh s.drawTurn.turn) := by
  rw [step_of_hostMoves (State.hostMoves_of_clockIdle hidle hlive hscript rfl) hscript]
  exact congrArg _ (State.hostRead_eq _ r)

/-- A row of READs with an idle clock takes one step each, and changes nothing but what they record. -/
theorem run_reads {s : State} {rs : List Reg} {rest : List HostStep} (n : Nat)
    (hidle : s.clockIdle = true) (hlive : s.hostHalted = false)
    (hscript : s.script = rs.map .read ++ rest) :
    ∃ fresh turn, Sys2Proof.core.run (rs.length + n) s = Sys2Proof.core.run n
      (s.withHost rest (s.readResults rs ++ s.reads) (s.readFaults rs ++ s.faults) fresh turn) := by
  induction rs generalizing s with
  | nil =>
    obtain rfl : s.script = rest := hscript
    exact ⟨s.fresh, s.turn, congrArg (Sys2Proof.core.run · s) (Nat.zero_add n)⟩
  | cons r rs ih =>
    obtain ⟨fresh, turn, hrun⟩ := ih (s := s.withHost (rs.map .read ++ rest) (s.readResults [r] ++ s.reads)
      (s.readFaults [r] ++ s.faults) s.drawTurn.fresh s.drawTurn.turn) hidle
      ((s.hostHalted_withHost_readFaults _ _ _ _ _).trans hlive) rfl
    refine ⟨fresh, turn, ?_⟩
    have hstep := run_succ (rs.length + n) (step_read hidle hlive hscript)
    rw [List.length_cons, Nat.add_right_comm]
    refine hstep.trans (hrun.trans (congrArg _ ?_))
    rw [s.readResults_cons r rs, s.readFaults_cons r rs, List.append_assoc, List.append_assoc]
    simp only [State.readResults, State.readFaults, State.withHost_readReg]
    rfl

/-- A WAIT with an idle clock. -/
theorem step_wait {s : State} {rest : List HostStep} (hidle : s.clockIdle = true)
    (hlive : s.hostHalted = false) (hscript : s.script = .wait :: rest) :
    step s = .next (s.withHost rest s.reads s.faults s.drawTurn.fresh s.drawTurn.turn) := by
  have hnotBusy : s.stepEnabled .wait = true := by
    simp [State.stepEnabled, (State.busy_reqValid_of_clockIdle hidle).1]
  exact step_of_hostMoves (State.hostMoves_of_clockIdle hidle hlive hscript hnotBusy) hscript

/-- The part the two pseudo-instructions share (30_encoding.md R57): with an idle clock the WAIT and the
READs take a step each, and change nothing but what the READs record. -/
theorem run_wait_reads {s : State} {rs : List Reg} {rest : List HostStep} (n : Nat)
    (hidle : s.clockIdle = true) (hlive : s.hostHalted = false)
    (hscript : s.script = .wait :: (rs.map .read ++ rest)) :
    ∃ fresh turn, Sys2Proof.core.run (rs.length + n + 1) s = Sys2Proof.core.run n
      (s.withHost rest (s.readResults rs ++ s.reads) (s.readFaults rs ++ s.faults) fresh turn) := by
  obtain ⟨fresh, turn, hrun⟩ := run_reads n
    (s := s.withHost (rs.map .read ++ rest) s.reads s.faults s.drawTurn.fresh s.drawTurn.turn)
    hidle hlive rfl
  refine ⟨fresh, turn, (run_succ _ (step_wait hidle hlive hscript)).trans (hrun.trans (congrArg _ ?_))⟩
  simp only [State.readResults, State.readFaults, State.withHost_readReg]
  rfl

/-! ### DECODE.RAW and RECONSTRUCT.DEC (30_encoding.md R57) -/

/-- Where the host has read `reads` last, its step `x` presents the request `i`. -/
def PresentsAfter (x : HostStep) (reads : List ReadResult) (i : Instr) : Prop :=
  ∀ s : State, s.reads = reads → s.stepEnabled x = true ∧ s.hostEffect x = s.present i false

theorem presentsAfter_decodeRead {reads : List ReadResult} {a : Word} (h : rawTripleRead reads = some a) :
    PresentsAfter .presentDecodeRead reads (.decode a 0#32 0#32) := by
  rintro s rfl
  exact ⟨by rw [State.stepEnabled, h]; rfl, State.hostEffect_presentDecodeRead h⟩

theorem presentsAfter_reconstructRead {reads : List ReadResult} {d : DecGroup}
    (h : decTripleRead reads = some d) :
    PresentsAfter .presentReconstructRead reads (.reconstruct d.sunit d.eval d.mval) := by
  rintro s rfl
  exact ⟨by rw [State.stepEnabled, h]; rfl, State.hostEffect_presentReconstructRead h⟩

/-- A step that presents a request puts it on the port, where it waits, and touches nothing of the CORE. -/
theorem PresentsAfter.step {s : State} {x : HostStep} {rest : List HostStep} {i : Instr}
    (h : PresentsAfter x s.reads i) (hscript : s.script = x :: rest) (hmoves : s.hostMoves = true) :
    ∃ t, step s = .next t ∧ t.script = rest ∧ s.sameCore t ∧ t.faults = s.faults ∧ t.waits = true ∧
      t.offered = i := by
  rw [step_of_hostMoves hmoves hscript, (h { s.drawTurn with script := rest } rfl).2]
  exact ⟨_, rfl, rfl, s.sameCore_refl, rfl, rfl, State.present_offered _ i false⟩

/-- Where the registers hold values, the WAIT, the READs and the step that presents end with the request on
the port. -/
theorem PresentsAfter.run_presents {s : State} {rs : List Reg} {x : HostStep} {rest : List HostStep}
    {i : Instr} (h : PresentsAfter x (s.readResults rs ++ s.reads) i)
    (hvalues : ∀ r ∈ rs, s.readReg r ≠ none) (hidle : s.clockIdle = true) (hlive : s.hostHalted = false)
    (hscript : s.script = .wait :: (rs.map .read ++ x :: rest)) :
    ∃ t, Sys2Proof.core.run (rs.length + 1 + 1) s = .next t ∧ t.script = rest ∧ s.sameCore t ∧
      t.faults = s.faults ∧ t.waits = true ∧ t.offered = i := by
  obtain ⟨fresh, turn, hrun⟩ := run_wait_reads 1 hidle hlive hscript
  rw [State.readFaults_of_values hvalues, List.nil_append] at hrun
  set u := s.withHost (x :: rest) (s.readResults rs ++ s.reads) s.faults fresh turn
  have hmoves : u.hostMoves = true :=
    State.hostMoves_of_clockIdle (s := u) hidle hlive rfl (h u rfl).1
  obtain ⟨t, hstep, ht⟩ := PresentsAfter.step (s := u) h rfl hmoves
  exact ⟨t, hrun.trans (run_succ 0 hstep), ht⟩

/-- Where none does, each READ faults, and a step that needs their values holds the host for good
(log 24). -/
theorem stuck_after_wait_reads {s : State} {rs : List Reg} {x : HostStep} {rest : List HostStep}
    (hdisabled : ∀ u : State, u.reads = s.readResults rs ++ s.reads → u.stepEnabled x = false)
    (hnone : ∀ r ∈ rs, s.readReg r = none) (hidle : s.clockIdle = true) (hlive : s.hostHalted = false)
    (hscript : s.script = .wait :: (rs.map .read ++ x :: rest)) :
    ∃ t, Sys2Proof.core.run (rs.length + 1) s = .next t ∧ s.sameCore t ∧ t.reqValid = false ∧
      t.hostMoves = false ∧ t.faults = (rs.map .readNoValue).reverse ++ s.faults := by
  obtain ⟨fresh, turn, hrun⟩ := run_wait_reads 0 hidle hlive hscript
  rw [State.readFaults_of_none hnone] at hrun
  exact ⟨_, hrun, s.sameCore_refl, (State.busy_reqValid_of_clockIdle hidle).2,
    State.hostMoves_of_not_enabled rfl (hdisabled _ rfl), rfl⟩

/-- The READs of DECODE.RAW return its A exactly where the RAW group holds a value. -/
theorem rawTripleRead_readResults (s : State) (reads : List ReadResult) :
    rawTripleRead (s.readResults [.resSign, .resExp, .resMant] ++ reads) = s.raw.map packTriple := by
  cases h : s.raw <;> simp [State.readResults, State.readReg, h, rawTripleRead, packTriple]

/-- The READs of RECONSTRUCT.DEC return the DEC group. -/
theorem decTripleRead_readResults (s : State) (reads : List ReadResult) :
    decTripleRead (s.readResults [.resSunit, .resEval, .resMval] ++ reads) = s.dec := by
  cases h : s.dec <;> simp [State.readResults, State.readReg, h, decTripleRead]

/-- Settles O58: both expansions are a WAIT, a row of READs and a step that presents. -/
theorem pseudoInstructionsChainStages : Obligations.PseudoInstructionsChainStages := by
  refine ⟨rfl, rfl, fun s a rest hscript hmoves hread => ?_, fun s d rest hscript hmoves hread => ?_,
    fun s rest hidle hlive hscript => ⟨fun g hraw => ?_, fun hraw => ?_⟩,
    fun s rest hidle hlive hscript => ⟨fun d hdec => ?_, fun hdec => ?_⟩⟩
  · obtain ⟨t, hstep, htscript, hcore, -, hport⟩ :=
      (presentsAfter_decodeRead hread).step hscript hmoves
    exact ⟨t, hstep, htscript, hcore, hport⟩
  · obtain ⟨t, hstep, htscript, hcore, -, hport⟩ :=
      (presentsAfter_reconstructRead hread).step hscript hmoves
    exact ⟨t, hstep, htscript, hcore, hport⟩
  · have hread := rawTripleRead_readResults s s.reads
    rw [hraw] at hread
    exact (presentsAfter_decodeRead hread).run_presents (by simp [State.readReg, hraw]) hidle hlive hscript
  · have hread := rawTripleRead_readResults s s.reads
    rw [hraw] at hread
    exact stuck_after_wait_reads (rs := [.resSign, .resExp, .resMant])
      (fun u hu => by rw [State.stepEnabled, hu, hread]; rfl) (by simp [State.readReg, hraw]) hidle hlive
      hscript
  · have hread := decTripleRead_readResults s s.reads
    rw [hdec] at hread
    exact (presentsAfter_reconstructRead hread).run_presents (by simp [State.readReg, hdec]) hidle hlive
      hscript
  · have hread := decTripleRead_readResults s s.reads
    rw [hdec] at hread
    exact stuck_after_wait_reads (rs := [.resSunit, .resEval, .resMval])
      (fun u hu => by rw [State.stepEnabled, hu, hread]; rfl) (by simp [State.readReg, hdec]) hidle hlive
      hscript

end Sys2Proof.Machine
end

section
/-! PROOF. The extractor's fields, EXTRACT, and the host's bytes (40_extract.md R70 to R74). -/

namespace Sys2Proof.Machine

/-! ### The extractor's fields (40_extract.md R70, R72) -/

/-- Settles O17: the fields a word is read by are slices of its bits. -/
theorem extractedFieldsAreBits : Obligations.ExtractedFieldsAreBits := by
  intro w
  rw [extractFields_eq]
  exact ⟨rfl, rfl, rfl⟩

/-- Packing what the extractor took from a word gives the word (40_extract.md R72). -/
theorem packTriple_extractFields (w : Word) : packTriple (extractFields w) = w := by
  rw [packTriple_eq_packWord, extractFields_eq, packWord_fields]

/-- Settles O18: the widened and shifted fields are the packed triple. -/
theorem fieldsPartitionWord : Obligations.FieldsPartitionWord := packTriple_extractFields

/-! ### EXTRACT (40_extract.md R73) -/

/-- Settles O16: of the groups a COMPLETE may write, EXTRACT's request names RAW alone. -/
theorem extractCompletes : Obligations.ExtractCompletes := by
  intro a b c s
  obtain ⟨t, ht, hraw, hdec, hval, hrawV, hdecV, hvalV, hbusy, hleft, hframe⟩ :=
    exec_cases (.extract a b c) s
  have hfields : t.raw = some ⟨signField a, expField a, fracField a⟩ :=
    hraw.trans (congrArg some (extractFields_eq a))
  exact ⟨t, ht, hfields, hdec, hval, hrawV, hdecV, hvalV, hbusy, hleft, hframe⟩

/-! ### The host's bytes (40_extract.md R74, 20_memory.md R41) -/

/-- The four bytes of a word, the most significant first, are the word: each byte continues the slice
before it. -/
theorem append_bytes (w : Word) :
    w.extractLsb' 24 8 ++ w.extractLsb' 16 8 ++ w.extractLsb' 8 8 ++ w.extractLsb' 0 8 = w := by
  have h16 : w.extractLsb' 24 8 ++ w.extractLsb' 16 8 = w.extractLsb' 16 16 :=
    BitVec.extractLsb'_append_extractLsb'_eq_extractLsb' rfl
  have h8 : w.extractLsb' 16 16 ++ w.extractLsb' 8 8 = w.extractLsb' 8 24 :=
    BitVec.extractLsb'_append_extractLsb'_eq_extractLsb' rfl
  have h0 : w.extractLsb' 8 24 ++ w.extractLsb' 0 8 = w.extractLsb' 0 32 :=
    BitVec.extractLsb'_append_extractLsb'_eq_extractLsb' rfl
  rw [h16, h8, h0, BitVec.extractLsb'_eq_self]

/-- A word stored and read back in one byte order is the word. -/
theorem bytesWord_wordBytes (o : ByteOrder) (w : Word) : bytesWord o (wordBytes o w) = some w := by
  cases o with
  | little => exact congrArg some (append_bytes w)
  | big => exact congrArg some (append_bytes w)

/-- Settles O60: the host stores and loads in the one order it has, whichever that is. -/
theorem hostBytesKeepEveryBit : Obligations.HostBytesKeepEveryBit :=
  ⟨bytesWord_wordBytes, bytesWord_wordBytes Config.hostByteOrder⟩

end Sys2Proof.Machine
end

section
/-! PROOF. The Field Decoder: signed unit, exponent value, mantissa accumulator, and DECODE
(41_decode.md R80 to R88). -/

namespace Sys2Proof.Machine

/-! ### The mantissa accumulator (41_decode.md R83, R84) -/

section Accumulator
variable (m : BitVec 23)

/-- An iteration adds the weight of the bit at its position where the mantissa has that bit. -/
theorem accStep_macc (acc : Accumulator) :
    (accStep m acc).macc =
      acc.macc + if m.getLsbD acc.iter.toNat then BitVec.twoPow 24 acc.iter.toNat else 0#24 := by
  rw [accStep, ← BitVec.twoPow_eq, ← BitVec.twoPow_eq, BitVec.and_twoPow]
  cases hbit : m.getLsbD acc.iter.toNat with
  | false => simp
  | true =>
    have hlt : acc.iter.toNat < 23 := BitVec.lt_of_getLsbD hbit
    have hmask : BitVec.twoPow 23 acc.iter.toNat ≠ 0#23 := fun h => by
      have htop := congrArg (BitVec.getLsbD · acc.iter.toNat) h
      simp [hlt] at htop
    simp [hmask]

/-- The loop invariant of the accumulator (41_decode.md R83). -/
theorem accRun_toNat {n : Nat} (hn : n ≤ 23) :
    (accRun m n).macc.toNat = 0x800000 + m.toNat % 2 ^ n ∧ (accRun m n).iter.toNat = n := by
  induction n with
  | zero => exact ⟨by rw [pow_zero, Nat.mod_one]; rfl, rfl⟩
  | succ n ih =>
    obtain ⟨hmacc, hiter⟩ := ih (by omega)
    have hweight : (if m.getLsbD n then BitVec.twoPow 24 n else 0#24).toNat =
        2 ^ n * (m.toNat / 2 ^ n % 2) := by
      have hpow : 2 ^ n < 2 ^ 24 := Nat.pow_lt_pow_right (by omega) (by omega)
      rw [← Nat.toNat_testBit, BitVec.testBit_toNat]
      cases m.getLsbD n with
      | false => simp
      | true => rw [if_pos rfl, BitVec.toNat_twoPow, Nat.mod_eq_of_lt hpow, Bool.toNat_true, mul_one]
    have hbits : m.toNat % 2 ^ (n + 1) < 2 ^ 23 := (Nat.mod_le _ _).trans_lt m.isLt
    rw [Nat.mod_pow_succ] at hbits ⊢
    constructor
    · rw [accRun, accStep_macc, hiter, BitVec.toNat_add, hmacc, hweight]
      omega
    · rw [accRun, accStep, BitVec.toNat_add, hiter, BitVec.toNat_ofNat]
      omega

/-- After all iterations the hidden bit stands above the mantissa (41_decode.md R84). -/
theorem accFinal_macc_toNat : (accFinal m).macc.toNat = 2 ^ 23 + m.toNat := by
  have h := (accRun_toNat m (le_refl 23)).1
  rwa [Nat.mod_eq_of_lt m.isLt] at h

end Accumulator

/-- Settles O24: each iteration extends the sum by one mantissa bit, and the hidden bit is above them all. -/
theorem accumulatorSumsMantissaBits : Obligations.AccumulatorSumsMantissaBits := by
  refine ⟨fun m _ => accRun_toNat m, fun m => ?_⟩
  have hm := m.isLt
  have hsum : (accFinal m).macc = 0x800000#24 + m.zeroExtend 24 := by
    apply BitVec.eq_of_toNat_eq
    rw [accFinal_macc_toNat, BitVec.toNat_add, BitVec.zeroExtend_eq_setWidth, BitVec.toNat_setWidth,
      BitVec.toNat_ofNat]
    omega
  have hdisjoint : 0x800000#24 &&& m.zeroExtend 24 = 0#24 := by
    rw [show 0x800000#24 = BitVec.twoPow 24 23 by decide, BitVec.twoPow_and,
      BitVec.zeroExtend_eq_setWidth, BitVec.getLsbD_setWidth, BitVec.getLsbD_of_ge m 23 (le_refl _)]
    rfl
  exact ⟨hsum, hsum.trans (BitVec.add_eq_or_of_and_eq_zero _ _ hdisjoint)⟩

/-! ### Words of exponent field 127: the signed unit and the mantissa value (41_decode.md R80, R85) -/

/-- A word of exponent field 127 denotes 1.f under its sign (00_scope.md R12). -/
theorem val32_packWord_127 (s : BitVec 1) (f : BitVec 23) :
    val32 (packWord s 127#8 f) = .real (signFactor s * (1 + (f.toNat : ℚ) / 2 ^ 23)) := by
  have hf := f.isLt
  have h := val32_packWord_normal s (r := 2 ^ 23 + f.toNat) (q := -23) (by omega) (by omega) (by omega)
    (by omega)
  rw [Nat.add_sub_cancel_left, BitVec.ofNat_toNat, BitVec.setWidth_eq] at h
  refine h.trans (congrArg Value.real ?_)
  push_cast
  rw [zpow_neg, zpow_ofNat]
  ring

theorem signUnit_eq_packWord (s : BitVec 1) : signUnit s = packWord s 127#8 0#23 := by
  revert s; decide

theorem val32_signUnit (s : BitVec 1) : val32 (signUnit s) = .real (signFactor s) := by
  rw [signUnit_eq_packWord, val32_packWord_127]
  simp

/-- The mantissa value keeps the mantissa's bits: 24 significant bits need no rounding. -/
theorem mantValue_eq_packWord (m : BitVec 23) : mantValue m = packWord 0#1 127#8 m := by
  have hm := m.isLt
  have h := round32_normal 0#1 (n := 2 ^ 23 + m.toNat) (k := -23) 0 (by omega) (by omega) (by omega)
    (by omega)
  rw [Nat.add_sub_cancel_left, BitVec.ofNat_toNat, BitVec.setWidth_eq, pow_zero, mul_one] at h
  rw [mantValue, accFinal_macc_toNat]
  exact h

theorem mantValue_eq_or (m : BitVec 23) : mantValue m = 0x3F800000#32 ||| m.zeroExtend 32 := by
  have hone : (0#1).zeroExtend 32 <<< 31 ||| (127#8).zeroExtend 32 <<< 23 = 0x3F800000#32 := by decide
  rw [mantValue_eq_packWord, packWord, hone]

/-- Settles O25: the mantissa value's word has exponent field 127, so it denotes 1.m. -/
theorem mantissaValueInUnitInterval : Obligations.MantissaValueInUnitInterval := by
  intro m
  have hval : val32 (mantValue m) = .real (1 + (m.toNat : ℚ) / 2 ^ 23) := by
    rw [mantValue_eq_packWord, val32_packWord_127, signFactor, if_pos rfl, one_mul]
  have hlt : (m.toNat : ℚ) / 2 ^ 23 < 1 := by
    rw [div_lt_one (by positivity)]
    exact_mod_cast m.isLt
  have hge : 0 ≤ (m.toNat : ℚ) / 2 ^ 23 := by positivity
  exact ⟨mantValue_eq_or m, _, hval, rfl, by linarith, by linarith⟩

/-- Settles O21: the signed unit is selected by its definition, and its word denotes the sign's factor. -/
theorem signUnitIsPlusMinusOne : Obligations.SignUnitIsPlusMinusOne :=
  ⟨fun _ => rfl, val32_signUnit 0#1, val32_signUnit 1#1⟩

/-! ### The exponent value (41_decode.md R81, R82) -/

section Exponent
variable (e : BitVec 8)

/-- Both operands of the subtraction and its result fit 9 signed bits (41_decode.md R81). -/
theorem unbiasedExp_toInt : (unbiasedExp e).toInt = (e.toNat : Int) - 127 := by
  have he := e.isLt
  have hbias : (BitVec.ofNat 9 Config.bias).toInt = 127 := by decide
  rw [unbiasedExp, BitVec.toInt_sub, hbias, BitVec.zeroExtend_eq_setWidth, BitVec.toInt_setWidth,
    Int.bmod_eq_of_le (n := e.toNat) (by omega) (by omega),
    Int.bmod_eq_of_le (by omega) (by omega)]

theorem expValue_eq_pow2 : expValue e = pow2 ((e.toNat : Int) - 127) := by
  rw [expValue, unbiasedExp_toInt]

/-- The exponent value at 0 is the subnormal 2^-127 (41_decode.md R82, R87). -/
theorem expValue_zero : expValue 0#8 = 0x00400000#32 := by
  rw [expValue_eq_pow2, show ((0#8).toNat : Int) - 127 = -127 by decide,
    (powersOfTwo _).2.1 (by omega) (by omega)]
  decide

/-- The exponent value at 255 overflows to infinity (41_decode.md R82, R87). -/
theorem expValue_255 : expValue 255#8 = 0x7F800000#32 :=
  (expValue_eq_pow2 255#8).trans ((powersOfTwo 128).2.2 (by omega))

/-- In between the exponent value's word has the exponent as its only field (41_decode.md R82). -/
theorem expValue_normal (h0 : e ≠ 0#8) (h255 : e ≠ 255#8) : expValue e = e.zeroExtend 32 <<< 23 := by
  have he := e.isLt
  have h0' : e.toNat ≠ 0 := fun h => h0 (BitVec.eq_of_toNat_eq h)
  have h255' : e.toNat ≠ 255 := fun h => h255 (BitVec.eq_of_toNat_eq h)
  rw [expValue_eq_pow2, (powersOfTwo _).1 (by omega) (by omega), sub_add_cancel, Int.toNat_natCast]
  apply BitVec.eq_of_toNat_eq
  rw [BitVec.toNat_shiftLeft, BitVec.zeroExtend_eq_setWidth, BitVec.toNat_setWidth, BitVec.toNat_ofNat,
    Nat.shiftLeft_eq, Nat.mod_eq_of_lt (show e.toNat < 2 ^ 32 by omega)]

/-- The closed form of the exponent value (41_decode.md R82). -/
theorem expValue_closed_form :
    expValue e = if e = 0#8 then 0x00400000#32 else if e = 255#8 then 0x7F800000#32
      else e.zeroExtend 32 <<< 23 := by
  split_ifs with h0 h255
  · rw [h0, expValue_zero]
  · rw [h255, expValue_255]
  · exact expValue_normal e h0 h255

end Exponent

/-- Settles O22: the difference stays between -127 and 128, well inside 9 signed bits. -/
theorem unbiasedExpNeverWraps : Obligations.UnbiasedExpNeverWraps := by
  intro e
  have he := e.isLt
  rw [unbiasedExp_toInt]
  omega

/-- Powers of two that binary32 holds are exact (00_scope.md R15). -/
theorem val32_pow2 {k : Int} (h1 : -149 ≤ k) (h2 : k ≤ 127) : val32 (pow2 k) = .real ((2 : ℚ) ^ k) := by
  rcases lt_or_ge k (-126) with hk | hk
  · have hlt : 2 ^ (k + 149).toNat < 2 ^ 23 := Nat.pow_lt_pow_right (by omega) (by omega)
    rw [pow2_subnormal h1 hk, encodeRounded_subnormal _ hlt, val32_packWord_subnormal _ hlt, signFactor,
      if_pos rfl, one_mul, Nat.cast_pow, Nat.cast_ofNat, ← zpow_natCast, ← zpow_add₀ two_ne_zero,
      Int.toNat_of_nonneg (by omega), add_neg_cancel_right]
  · rw [pow2_normal hk, encodeRounded_normal _ (le_refl _) (by omega) (by omega),
      val32_packWord_normal _ (le_refl _) (by omega) (by omega) (by omega), signFactor, if_pos rfl,
      one_mul, Nat.cast_pow, Nat.cast_ofNat, ← zpow_natCast, ← zpow_add₀ two_ne_zero, Nat.cast_ofNat,
      add_sub_cancel]

/-- Settles O23: below 255 the unbiased exponent is one whose power of two binary32 holds. -/
theorem expValueIsPowerOfTwo : Obligations.ExpValueIsPowerOfTwo := by
  refine ⟨fun e h255 => ?_, ?_⟩
  · have he := e.isLt
    have h255' : e.toNat ≠ 255 := fun h => h255 (BitVec.eq_of_toNat_eq h)
    rw [expValue_eq_pow2, val32_pow2 (by omega) (by omega)]
  · rw [expValue_255]
    decide

/-! ### DECODE (41_decode.md R86, R88) -/

/-- The signed unit of a word, by its bit 31. -/
theorem signUnit_signField (a : Word) :
    signUnit (signField a) = if a.getLsbD 31 then 0xBF800000#32 else 0x3F800000#32 := by
  have hbit : signField a = BitVec.ofBool (a.getLsbD 31) := by
    apply BitVec.eq_of_getLsbD_eq
    intro i hi
    obtain rfl : i = 0 := by omega
    simp [signField]
  rw [hbit]
  cases a.getLsbD 31 <;> rfl

/-- A word's fraction field, widened, is the word under the extractor's mask (40_extract.md R70). -/
theorem fracField_zeroExtend (a : Word) : (fracField a).zeroExtend 32 = a &&& 0x7FFFFF#32 := by
  have hmask : 0x7FFFFF#32 = (BitVec.allOnes 23).setWidth 32 := by decide
  apply BitVec.eq_of_getLsbD_eq
  intro i hi
  rw [hmask, BitVec.getLsbD_and, BitVec.getLsbD_setWidth, BitVec.getLsbD_setWidth, BitVec.getLsbD_allOnes,
    fracField, BitVec.getLsbD_extractLsb', Nat.zero_add, ← Bool.and_assoc, Bool.and_comm]

/-- The decoded triple of a word in closed form (41_decode.md R80, R82, R85). -/
theorem decodeTriple_extractFields (a : Word) :
    decodeTriple (extractFields a) =
      ⟨if a.getLsbD 31 then 0xBF800000#32 else 0x3F800000#32,
       if expField a = 0#8 then 0x00400000#32
       else if expField a = 255#8 then 0x7F800000#32
       else (expField a).zeroExtend 32 <<< 23,
       0x3F800000#32 ||| (a &&& 0x7FFFFF#32)⟩ := by
  rw [extractFields_eq, decodeTriple, signUnit_signField, expValue_closed_form, mantValue_eq_or,
    fracField_zeroExtend]

/-- Settles O20: of the groups a COMPLETE may write, DECODE's request names DEC alone. -/
theorem decodeCompletes : Obligations.DecodeCompletes := by
  intro a b c s
  obtain ⟨t, ht, hraw, hdec, hval, hrawV, hdecV, hvalV, hbusy, hleft, hframe⟩ :=
    exec_cases (.decode a b c) s
  have htriple := hdec.trans (congrArg some (decodeTriple_extractFields a))
  exact ⟨t, ht, htriple, hraw, hval, hdecV, hrawV, hvalV, hbusy, hleft, hframe⟩

end Sys2Proof.Machine
end

section
/-! PROOF. The multiplier, the Value Reconstructor and RECONSTRUCT (42_reconstruct.md R100 to R105). -/

namespace Sys2Proof.Machine

/-! ### The classes of a word (00_scope.md R13) -/

section Classes
variable {w : Word}

/-- A word that is neither a NaN nor an infinity is finite. -/
theorem expField_ne_255_iff : expField w ≠ 255#8 ↔ isNaN w = false ∧ isInf w = false := by
  unfold isNaN isInf
  by_cases he : expField w = 255#8 <;> by_cases hf : fracField w = 0#23 <;> simp [he, hf]

theorem isInf_eq_true_iff : isInf w = true ↔ expField w = 255#8 ∧ fracField w = 0#23 := by
  simp [isInf]

theorem isZero_eq_true_iff : isZero w = true ↔ expField w = 0#8 ∧ fracField w = 0#23 := by
  simp [isZero]

theorem isZero_of_isInf (h : isInf w = true) : isZero w = false := by
  simp [isZero, (isInf_eq_true_iff.1 h).1]

theorem isNaN_of_isInf (h : isInf w = true) : isNaN w = false := by
  simp [isNaN, (isInf_eq_true_iff.1 h).2]

theorem expField_ne_255_of_isZero (h : isZero w = true) : expField w ≠ 255#8 := by
  rw [(isZero_eq_true_iff.1 h).1]
  decide

theorem sig32_of_isZero (h : isZero w = true) : (sig32 w).1 = 0 := by
  obtain ⟨he, hf⟩ := isZero_eq_true_iff.1 h
  rw [sig32, if_pos he, hf]
  rfl

/-- A packed word is a NaN by its exponent and fraction. -/
theorem isNaN_packWord_eq_false {s : BitVec 1} {e : BitVec 8} {f : BitVec 23} (h : e = 255#8 → f = 0#23) :
    isNaN (packWord s e f) = false := by
  simpa [isNaN] using h

theorem sig32_packWord (s : BitVec 1) {e : BitVec 8} (f : BitVec 23) (he : e ≠ 0#8) :
    sig32 (packWord s e f) = (2 ^ 23 + f.toNat, (e.toNat : Int) - 150) := by
  simp [sig32, he]

end Classes

/-- NAN_RESULT is a NaN, whichever it is (42_reconstruct.md R101). -/
theorem nanResult_isNaN (a b : Word) : isNaN (nanResult a b) = true := by
  have hfrac := (Config.nanResult a b).fracLess1.isLt
  have hne : BitVec.ofNat 23 ((Config.nanResult a b).fracLess1.val + 1) ≠ 0#23 := fun h => by
    have := congrArg BitVec.toNat h
    rw [BitVec.toNat_ofNat, BitVec.toNat_ofNat] at this
    omega
  simp [nanResult, nanToWord, isNaN, hne]

/-! ### A word with its sign bit flipped -/

section FlipSign
variable (w : Word)

@[simp] theorem signField_flipSign : signField (w ^^^ 0x80000000#32) = signField w ^^^ 1#1 :=
  BitVec.extractLsb'_xor ..

@[simp] theorem expField_flipSign : expField (w ^^^ 0x80000000#32) = expField w :=
  (BitVec.extractLsb'_xor ..).trans (BitVec.xor_zero ..)

@[simp] theorem fracField_flipSign : fracField (w ^^^ 0x80000000#32) = fracField w :=
  (BitVec.extractLsb'_xor ..).trans (BitVec.xor_zero ..)

theorem packWord_flipSign (s : BitVec 1) (e : BitVec 8) (f : BitVec 23) :
    packWord (s ^^^ 1#1) e f = packWord s e f ^^^ 0x80000000#32 := by
  apply word_ext <;> simp

end FlipSign

/-! ### Rounding under either sign (00_scope.md R14) -/

/-- An encoding has one exponent and one fraction under either sign, and never those of a NaN. -/
theorem encodeRounded_eq_packWord (r : Nat) (q : Int) :
    ∃ e f, (e = 255#8 → f = 0#23) ∧ ∀ s, encodeRounded s r q = packWord s e f := by
  unfold encodeRounded
  dsimp only
  generalize (if r = 2 ^ 24 then 2 ^ 23 else r) = r'
  generalize (if r = 2 ^ 24 then q + 1 else q) = q'
  by_cases hsub : q' = -149 ∧ r' < 2 ^ 23
  · exact ⟨0#8, _, fun h => absurd h (by decide), fun s => if_pos hsub⟩
  by_cases hover : 255 ≤ q' + 150
  · exact ⟨255#8, 0#23, fun _ => rfl, fun s => by rw [if_neg hsub, if_pos hover]⟩
  · refine ⟨_, _, fun h => ?_, fun s => by rw [if_neg hsub, if_neg hover]⟩
    have := congrArg BitVec.toNat h
    rw [BitVec.toNat_ofNat, BitVec.toNat_ofNat] at this
    omega

theorem round32_zero (s : BitVec 1) (k : Int) : round32 s 0 k = packWord s 0#8 0#23 := if_pos rfl

/-- So has a rounding. -/
theorem round32_eq_packWord (n : Nat) (k : Int) :
    ∃ e f, (e = 255#8 → f = 0#23) ∧ ∀ s, round32 s n k = packWord s e f := by
  obtain ⟨r, q, -, henc⟩ := round32_encodes_rounding n k
  obtain ⟨e, f, hnan, hpack⟩ := encodeRounded_eq_packWord r q
  exact ⟨e, f, hnan, fun s => (henc s).trans (hpack s)⟩

theorem signField_round32 (s : BitVec 1) (n : Nat) (k : Int) : signField (round32 s n k) = s := by
  obtain ⟨e, f, -, h⟩ := round32_eq_packWord n k
  rw [h, packWord_signField]

theorem isNaN_round32 (s : BitVec 1) (n : Nat) (k : Int) : isNaN (round32 s n k) = false := by
  obtain ⟨e, f, hnan, h⟩ := round32_eq_packWord n k
  rw [h, isNaN_packWord_eq_false hnan]

theorem round32_flipSign (s : BitVec 1) (n : Nat) (k : Int) :
    round32 (s ^^^ 1#1) n k = round32 s n k ^^^ 0x80000000#32 := by
  obtain ⟨e, f, -, h⟩ := round32_eq_packWord n k
  rw [h, h, packWord_flipSign]

theorem signFactor_xor (s t : BitVec 1) : signFactor (s ^^^ t) = signFactor s * signFactor t := by
  have hbit : ∀ c : BitVec 1, c = 0#1 ∨ c = 1#1 := by decide
  rcases hbit s with rfl | rfl <;> rcases hbit t with rfl | rfl <;> simp [signFactor]

/-! ### The multiplier, one equation per case (42_reconstruct.md R100) -/

/-- The operands of which R100 returns NAN_RESULT: one is a NaN, or an infinity meets a zero. -/
def NanProduct (a b : Word) : Prop :=
  isNaN a = true ∨ isNaN b = true ∨ (isInf a = true ∧ isZero b = true) ∨
    (isZero a = true ∧ isInf b = true)

theorem productSign_comm (a b : Word) : productSign b a = productSign a b := BitVec.xor_comm _ _

section Product
variable {a b : Word}

theorem NanProduct.symm (h : NanProduct a b) : NanProduct b a := by
  rcases h with h | h | ⟨ha, hb⟩ | ⟨ha, hb⟩
  · exact .inr (.inl h)
  · exact .inl h
  · exact .inr (.inr (.inr ⟨hb, ha⟩))
  · exact .inr (.inr (.inl ⟨hb, ha⟩))

theorem not_nanProduct_of_isInf (ha : isInf a = true) (hnb : isNaN b = false) (hb : isZero b = false) :
    ¬ NanProduct a b := by
  simp [NanProduct, isNaN_of_isInf ha, hnb, hb, isZero_of_isInf ha]

theorem not_nanProduct_of_finite (ha : expField a ≠ 255#8) (hb : expField b ≠ 255#8) :
    ¬ NanProduct a b := by
  obtain ⟨hna, hia⟩ := expField_ne_255_iff.1 ha
  obtain ⟨hnb, hib⟩ := expField_ne_255_iff.1 hb
  simp [NanProduct, hna, hia, hnb, hib]

theorem fmul32_of_nanProduct (h : NanProduct a b) : fmul32 a b = nanResult a b := by
  rcases h with h | h | ⟨ha, hb⟩ | ⟨ha, hb⟩
  · simp [fmul32, h]
  · simp [fmul32, h]
  · simp [fmul32, ha, hb]
  · simp [fmul32, ha, hb]

theorem fmul32_of_isInf (h : ¬ NanProduct a b) (hinf : isInf a = true ∨ isInf b = true) :
    fmul32 a b = packWord (productSign a b) 255#8 0#23 := by
  simp only [NanProduct, not_or, not_and, Bool.not_eq_true] at h
  obtain ⟨hna, hnb, hab, hba⟩ := h
  rcases hinf with hi | hi
  · simp [fmul32, hna, hnb, hi, hab hi, isZero_of_isInf hi]
  · have hza : isZero a = false := by
      by_contra hz
      simp [hba (by simpa using hz)] at hi
    simp [fmul32, hna, hnb, hi, hza, isZero_of_isInf hi]

/-- The product of finite words is one rounding of the exact product; a zero among them needs no case of
its own, as 0 rounds to a zero. -/
theorem fmul32_of_finite (ha : expField a ≠ 255#8) (hb : expField b ≠ 255#8) :
    fmul32 a b = round32 (productSign a b) ((sig32 a).1 * (sig32 b).1) ((sig32 a).2 + (sig32 b).2) := by
  obtain ⟨hna, hia⟩ := expField_ne_255_iff.1 ha
  obtain ⟨hnb, hib⟩ := expField_ne_255_iff.1 hb
  simp only [fmul32, hna, hia, hnb, hib, Bool.or_self, Bool.false_eq_true, if_false]
  split_ifs with hzero
  · have hmul : (sig32 a).1 * (sig32 b).1 = 0 := by
      rcases (Bool.or_eq_true _ _).mp hzero with h | h
      · rw [sig32_of_isZero h, zero_mul]
      · rw [sig32_of_isZero h, mul_zero]
    rw [hmul, round32_zero]
  · rfl

/-- Where the product is no NaN, an operand is an infinity or both are finite. -/
theorem isInf_or_finite (h : ¬ NanProduct a b) :
    (isInf a = true ∨ isInf b = true) ∨ (expField a ≠ 255#8 ∧ expField b ≠ 255#8) := by
  simp only [NanProduct, not_or, Bool.not_eq_true] at h
  obtain ⟨hna, hnb, -⟩ := h
  by_cases hinf : isInf a = true ∨ isInf b = true
  · exact .inl hinf
  · simp only [not_or, Bool.not_eq_true] at hinf
    exact .inr ⟨expField_ne_255_iff.2 ⟨hna, hinf.1⟩, expField_ne_255_iff.2 ⟨hnb, hinf.2⟩⟩

theorem isNaN_fmul32_iff : isNaN (fmul32 a b) = true ↔ NanProduct a b := by
  refine ⟨fun hnan => ?_, fun h => by rw [fmul32_of_nanProduct h, nanResult_isNaN]⟩
  by_contra h
  rcases isInf_or_finite h with hinf | ⟨ha, hb⟩
  · rw [fmul32_of_isInf h hinf, isNaN_packWord_eq_false fun _ => rfl] at hnan
    cases hnan
  · rw [fmul32_of_finite ha hb, isNaN_round32] at hnan
    cases hnan

theorem fmul32_comm (h : ¬ NanProduct a b) : fmul32 b a = fmul32 a b := by
  rcases isInf_or_finite h with hinf | ⟨ha, hb⟩
  · rw [fmul32_of_isInf h hinf, fmul32_of_isInf (mt NanProduct.symm h) hinf.symm, productSign_comm]
  · rw [fmul32_of_finite ha hb, fmul32_of_finite hb ha, productSign_comm, mul_comm, add_comm]

/-- The sign of the first operand enters a product as its sign only (42_reconstruct.md R105). -/
theorem fmul32_flipSign (h : ¬ NanProduct a b) :
    fmul32 (a ^^^ 0x80000000#32) b = fmul32 a b ^^^ 0x80000000#32 := by
  have hsign : productSign (a ^^^ 0x80000000#32) b = productSign a b ^^^ 1#1 := by
    rw [productSign, productSign, signField_flipSign, BitVec.xor_assoc, BitVec.xor_assoc,
      BitVec.xor_comm 1#1]
  have hinf_eq : isInf (a ^^^ 0x80000000#32) = isInf a := by simp [isInf]
  rcases isInf_or_finite h with hinf | ⟨ha, hb⟩
  · have h' : ¬ NanProduct (a ^^^ 0x80000000#32) b := by simpa [NanProduct, isNaN, isInf, isZero] using h
    rw [fmul32_of_isInf h hinf, fmul32_of_isInf h' (hinf_eq ▸ hinf), hsign, packWord_flipSign]
  · have hsig : sig32 (a ^^^ 0x80000000#32) = sig32 a := by simp [sig32]
    rw [fmul32_of_finite ha hb, fmul32_of_finite (by rwa [expField_flipSign]) hb, hsign, hsig,
      round32_flipSign]

end Product

/-- Settles O30: a product is a NaN for the operands of `NanProduct` only. -/
theorem productNanExactlyWhere : Obligations.ProductNanExactlyWhere := fun a b =>
  ⟨nanResult_isNaN a b, isNaN_fmul32_iff, fun h => fmul32_of_nanProduct (isNaN_fmul32_iff.1 h)⟩

/-- Settles O33: both orders of the operands fall into one case of R100, whose result is symmetric. -/
theorem productCommutes : Obligations.ProductCommutes := fun _ _ hnan =>
  fmul32_comm fun h => Bool.eq_false_iff.1 hnan (isNaN_fmul32_iff.2 h)

/-- Settles O31: an infinity and a zero each decide their product, whose sign is the product's. -/
theorem productOfInfinityAndZero : Obligations.ProductOfInfinityAndZero := by
  intro a b _ hnb
  refine ⟨fun ha hb => ?_, fun ha hb => ?_⟩
  · have h := not_nanProduct_of_isInf ha hnb hb
    have hprod := fmul32_of_isInf h (.inl ha)
    exact ⟨hprod, (fmul32_comm h).trans hprod⟩
  · have hfa := expField_ne_255_of_isZero ha
    have hfb := expField_ne_255_iff.2 ⟨hnb, hb⟩
    have hprod : fmul32 a b = packWord (productSign a b) 0#8 0#23 := by
      rw [fmul32_of_finite hfa hfb, sig32_of_isZero ha, zero_mul, round32_zero]
    exact ⟨hprod, (fmul32_comm (not_nanProduct_of_finite hfa hfb)).trans hprod⟩

/-- Settles O32: the multiplier rounds the exact product, whose magnitude is the significands' product. -/
theorem productRoundsExactProduct : Obligations.ProductRoundsExactProduct := by
  intro a b p q hp hq
  obtain ⟨ha, rfl⟩ := val32_eq_real hp
  obtain ⟨hb, rfl⟩ := val32_eq_real hq
  have hround := roundingIsToNearestEven (productSign a b) ((sig32 a).1 * (sig32 b).1)
    ((sig32 a).2 + (sig32 b).2)
  rw [← fmul32_of_finite ha hb] at hround
  have hexact : signFactor (signField a) * (sig32 a).1 * (2 : ℚ) ^ (sig32 a).2 *
        (signFactor (signField b) * (sig32 b).1 * (2 : ℚ) ^ (sig32 b).2) =
      signFactor (productSign a b) * ((sig32 a).1 * (sig32 b).1 : Nat) *
        (2 : ℚ) ^ ((sig32 a).2 + (sig32 b).2) := by
    rw [productSign, signFactor_xor, zpow_add₀ two_ne_zero]
    push_cast
    ring
  have hmag : |signFactor (productSign a b) * ((sig32 a).1 * (sig32 b).1 : Nat) *
        (2 : ℚ) ^ ((sig32 a).2 + (sig32 b).2)| =
      ((sig32 a).1 * (sig32 b).1 : Nat) * (2 : ℚ) ^ ((sig32 a).2 + (sig32 b).2) := by
    rw [mul_assoc, abs_mul, abs_signFactor, one_mul, abs_of_nonneg (by positivity)]
  refine ⟨?_, ?_⟩
  · rw [fmul32_of_finite ha hb, signField_round32, productSign]
  · rw [hexact, hmag]
    exact hround

/-! ### Reconstruction (42_reconstruct.md R102 to R105) -/

/-- Settles O36: neither product of the reconstruction is a NaN, and each hands the flipped sign on. -/
theorem reconstructSignSymmetry : Obligations.ReconstructSignSymmetry := by
  intro ev mv hnan
  have houter : ¬ NanProduct (fmul32 0x3F800000#32 ev) mv := fun h =>
    Bool.eq_false_iff.1 hnan (isNaN_fmul32_iff.2 h)
  have hinner : ¬ NanProduct 0x3F800000#32 ev := fun h => houter (.inl (isNaN_fmul32_iff.2 h))
  have hunit : 0xBF800000#32 = 0x3F800000#32 ^^^ 0x80000000#32 := by decide
  rw [reconstruct, reconstruct, hunit, fmul32_flipSign hinner, fmul32_flipSign houter]

/-- A signed unit times a word that is no NaN is that word under the product's sign. -/
theorem fmul32_signUnit (s : BitVec 1) {w : Word} (hnan : isNaN w = false) :
    fmul32 (signUnit s) w = packWord (s ^^^ signField w) (expField w) (fracField w) := by
  rw [signUnit_eq_packWord]
  have hsign : productSign (packWord s 127#8 0#23) w = s ^^^ signField w := by
    rw [productSign, packWord_signField]
  cases hinf : isInf w with
  | true =>
    obtain ⟨he, hf⟩ := isInf_eq_true_iff.1 hinf
    have h : ¬ NanProduct w (packWord s 127#8 0#23) :=
      not_nanProduct_of_isInf hinf (isNaN_packWord_eq_false fun _ => rfl) (by simp [isZero])
    rw [fmul32_of_isInf (mt NanProduct.symm h) (.inr hinf), hsign, he, hf]
  | false =>
    have hw : expField w ≠ 255#8 := expField_ne_255_iff.2 ⟨hnan, hinf⟩
    have hone : sig32 (packWord s 127#8 0#23) = (2 ^ 23, -23) := sig32_packWord s _ (by decide)
    rw [fmul32_of_finite (by rw [packWord_expField]; decide) hw, hsign, hone, ← round32_sig32 _ 23 hw,
      mul_comm, add_comm, sub_eq_add_neg]
    rfl

/-! ### Exponent field 0: one rounding by one bit (42_reconstruct.md R103, case 4) -/

/-- Dropping the last bit of `n`, with zero bits below it, rounds the half of `n` to even. -/
theorem shiftRoundEven_half (n j : Nat) :
    shiftRoundEven (n * 2 ^ j) (j + 1) = n / 2 + n % 2 * (n / 2 % 2) := by
  have hpow : 2 ^ (j + 1) = 2 * 2 ^ j := pow_succ' 2 j
  have hpos : 0 < 2 ^ j := by positivity
  rw [shiftRoundEven, Nat.shiftRight_eq_div_pow, hpow, Nat.mul_div_mul_right _ _ hpos,
    Nat.mul_mod_mul_right, Nat.add_sub_cancel]
  rcases Nat.mod_two_eq_zero_or_one n with h | h
  · simp [h, hpos.ne]
  · rcases Nat.mod_two_eq_zero_or_one (n / 2) with h' | h' <;> simp [h, h']

theorem halfEven_toNat (w : Word) :
    (halfEven w).toNat = w.toNat / 2 + w.toNat % 2 * (w.toNat / 2 % 2) := by
  have hbit : ∀ v : Word, (v &&& 1#32).toNat = v.toNat % 2 := fun v => by
    rw [BitVec.toNat_and]
    exact Nat.and_one_is_mod _
  have hlt := w.isLt
  rw [halfEven, BitVec.toNat_add, BitVec.toNat_and, hbit, hbit, BitVec.toNat_ushiftRight,
    Nat.shiftRight_one]
  rcases Nat.mod_two_eq_zero_or_one w.toNat with h | h
  · simp [h]; omega
  · rcases Nat.mod_two_eq_zero_or_one (w.toNat / 2) with h' | h' <;> simp [h, h'] <;> omega

/-- Up to 2^23 units of 2^-149 the encoding is the number of units, and 2^23 of them are the smallest
normal (00_scope.md R14). -/
theorem encodeRounded_units (s : BitVec 1) {r : Nat} (h : r ≤ 2 ^ 23) :
    encodeRounded s r (-149) = s.zeroExtend 32 <<< 31 ||| BitVec.ofNat 32 r := by
  rcases Nat.lt_or_eq_of_le h with hlt | rfl
  · have hzero : (0#8).zeroExtend 32 <<< 23 = 0#32 := rfl
    have hfrac : (BitVec.ofNat 23 r).zeroExtend 32 = BitVec.ofNat 32 r := by
      apply BitVec.eq_of_toNat_eq
      simp
      omega
    rw [encodeRounded_subnormal s hlt, packWord, hzero, hfrac, BitVec.or_zero]
  · rw [encodeRounded_normal s (le_refl _) (by omega) (by omega)]
    revert s
    decide

/-- 24 bits of which the last weighs 2^-150 lose that one bit, with its tie to even (00_scope.md R14). -/
theorem round32_half (s : BitVec 1) {w : Word} (j : Nat) (h1 : 2 ^ 23 ≤ w.toNat) (h2 : w.toNat < 2 ^ 24) :
    round32 s (w.toNat * 2 ^ j) (-150 - j) = s.zeroExtend 32 <<< 31 ||| halfEven w := by
  have h0 : w.toNat ≠ 0 := by omega
  have hshift : roundShift (w.toNat * 2 ^ j) (-150 - j) = (j + 1 : Nat) := by
    rw [roundShift, log2_mul_pow h0, log2_eq (p := 23) h1 h2]
    push_cast
    rw [if_neg (by omega)]
    omega
  have hsig : roundedSig (w.toNat * 2 ^ j) (j + 1 : Nat) = (halfEven w).toNat := by
    rw [roundedSig, if_neg (by omega), Int.toNat_natCast, shiftRoundEven_half, halfEven_toNat]
  have hle : (halfEven w).toNat ≤ 2 ^ 23 := by
    have hbit : w.toNat % 2 * (w.toNat / 2 % 2) ≤ 1 * 1 := Nat.mul_le_mul (by omega) (by omega)
    rw [halfEven_toNat]
    omega
  rw [round32, if_neg (Nat.mul_ne_zero h0 (by positivity)), hshift, hsig,
    show (-150 - j : Int) + (j + 1 : Nat) = -149 by omega, encodeRounded_units s hle, BitVec.ofNat_toNat,
    BitVec.setWidth_eq]

/-! ### The decoded domain (42_reconstruct.md R103) -/

section Decoded
variable (s : BitVec 1) (m : BitVec 23)

/-- Exponent field 255: an infinity times a mantissa value. -/
theorem fmul32_infinity_mantValue :
    fmul32 (packWord s 255#8 0#23) (mantValue m) = s.zeroExtend 32 <<< 31 ||| 0x7F800000#32 := by
  have hinf : isInf (packWord s 255#8 0#23) = true := by simp [isInf]
  rw [mantValue_eq_packWord, fmul32_of_isInf (not_nanProduct_of_isInf hinf
    (isNaN_packWord_eq_false fun h => absurd h (by decide)) (by simp [isZero])) (.inl hinf), productSign,
    packWord_signField, packWord_signField, BitVec.xor_zero]
  revert s
  decide

/-- A finite word times a mantissa value, whose significand is the hidden bit and the mantissa. -/
theorem fmul32_mantValue {w : Word} (hw : expField w ≠ 255#8) :
    fmul32 w (mantValue m) = round32 (signField w) ((sig32 w).1 * (2 ^ 23 + m.toNat)) ((sig32 w).2 - 23) := by
  have hm : sig32 (packWord 0#1 127#8 m) = (2 ^ 23 + m.toNat, -23) := sig32_packWord _ _ (by decide)
  rw [mantValue_eq_packWord, fmul32_of_finite hw (by rw [packWord_expField]; decide), hm, productSign,
    packWord_signField, BitVec.xor_zero, sub_eq_add_neg]

/-- A normal exponent field: the exact product has 24 bits, so no bit is dropped. -/
theorem fmul32_normal_mantValue {e : BitVec 8} (h0 : e ≠ 0#8) (h255 : e ≠ 255#8) :
    fmul32 (packWord s e 0#23) (mantValue m) = packWord s e m := by
  have hround := round32_sig32 s (w := packWord s e m) 23 (by rwa [packWord_expField])
  rw [sig32_packWord s m h0, packWord_expField, packWord_fracField] at hround
  rw [fmul32_mantValue m (by rwa [packWord_expField]), sig32_packWord s _ h0, packWord_signField, mul_comm]
  exact hround

/-- Exponent field 0: 2^-127 times a mantissa value has one bit below 2^-149. -/
theorem fmul32_zeroExp_mantValue :
    fmul32 (packWord s 0#8 0x400000#23) (mantValue m) =
      s.zeroExtend 32 <<< 31 ||| halfEven (0x800000#32 + m.zeroExtend 32) := by
  have hm := m.isLt
  have hn : (0x800000#32 + m.zeroExtend 32).toNat = 2 ^ 23 + m.toNat := by
    rw [BitVec.toNat_add, BitVec.zeroExtend_eq_setWidth, BitVec.toNat_setWidth, BitVec.toNat_ofNat]
    omega
  have hsig : sig32 (packWord s 0#8 0x400000#23) = (2 ^ 22, -149) := by simp [sig32]
  rw [fmul32_mantValue m (by rw [packWord_expField]; decide), packWord_signField, hsig, mul_comm, ← hn]
  exact round32_half s 22 (by omega) (by omega)

/-- The signed unit gives the exponent value its sign, and no more. -/
theorem reconstructGroup_decodeTriple (g : RawGroup) {e : BitVec 8} {f : BitVec 23}
    (hexp : expValue g.exp = packWord 0#1 e f) (hnan : e = 255#8 → f = 0#23) :
    reconstructGroup (decodeTriple g) = fmul32 (packWord g.sign e f) (mantValue g.mant) := by
  rw [reconstructGroup, decodeTriple, reconstruct, hexp, fmul32_signUnit _ (isNaN_packWord_eq_false hnan),
    packWord_signField, packWord_expField, packWord_fracField, BitVec.xor_zero]

end Decoded

/-- Settles O37: the three kinds of exponent value, each times the mantissa value, are the three cases. -/
theorem reconstructOfDecodedTriple : Obligations.ReconstructOfDecodedTriple := by
  intro g
  split_ifs with h255 h0
  · have hexp : expValue g.exp = packWord 0#1 255#8 0#23 := by rw [h255, expValue_255]; decide
    rw [reconstructGroup_decodeTriple g hexp fun _ => rfl, fmul32_infinity_mantValue]
  · have hexp : expValue g.exp = packWord 0#1 0#8 0x400000#23 := by rw [h0, expValue_zero]; decide
    rw [reconstructGroup_decodeTriple g hexp fun h => absurd h (by decide), fmul32_zeroExp_mantValue]
  · have hexp : expValue g.exp = packWord 0#1 g.exp 0#23 := by
      rw [expValue_normal _ h0 h255]; simp [packWord]
    rw [reconstructGroup_decodeTriple g hexp fun _ => rfl, fmul32_normal_mantValue _ _ h0 h255, packWord]

/-! ### RECONSTRUCT (42_reconstruct.md R104) -/

/-- Settles O34: of the groups a COMPLETE may write, RECONSTRUCT's request names VAL alone. -/
theorem reconstructCompletes : Obligations.ReconstructCompletes := by
  intro a b c s
  obtain ⟨t, ht, hraw, hdec, hval, hrawV, hdecV, hvalV, hbusy, hleft, hframe⟩ :=
    exec_cases (.reconstruct a b c) s
  exact ⟨t, ht, hval, hraw, hdec, hvalV, hrawV, hdecV, hbusy, hleft, hframe⟩

/-- Settles O35: the two NaN cases by what R100 returns there, the others by evaluation. -/
theorem reconstructCornerCases : Obligations.ReconstructCornerCases := by
  have hinfinity : fmul32 0x3F800000#32 0x7F800000#32 = 0x7F800000#32 := by decide +kernel
  refine ⟨by decide +kernel, by decide +kernel, by decide +kernel, ?_, ?_, by decide +kernel,
    by decide +kernel, by decide +kernel, by decide +kernel, by decide +kernel, by decide +kernel,
    by decide +kernel, by decide +kernel, by decide +kernel, by decide +kernel⟩
  · rw [reconstruct, hinfinity, fmul32_of_nanProduct (.inr (.inr (.inl (by decide))))]
  · rw [reconstruct, fmul32_of_nanProduct (a := 0x7FC00000#32) (.inl (by decide)),
      fmul32_of_nanProduct (.inl (nanResult_isNaN _ _))]

end Sys2Proof.Machine
end

section
/-! PROOF. ROUNDTRIP, the words that return from it, and the CHECK after it (43_roundtrip.md R120 to R124,
60_exceptions.md R144). -/

namespace Sys2Proof.Machine

/-! ### ROUNDTRIP (43_roundtrip.md R120, R124) -/

/-- Settles O38: of the groups a COMPLETE may write, ROUNDTRIP's request names all three. -/
theorem roundtripCompletes : Obligations.RoundtripCompletes := by
  intro a b c s
  obtain ⟨t, ht, hraw, hdec, hval, hrawV, hdecV, hvalV, hbusy, hleft, hframe⟩ :=
    exec_cases (.roundtrip a b c) s
  exact ⟨t, ht, extractFields a, decodeTriple (extractFields a), hraw, rfl, hdec, rfl, hval, hrawV, hdecV,
    hvalV, hbusy, hleft, hframe⟩

/-- Settles O42: each request writes its stage's result, and the packed triple extracts to the triple
(O19). -/
theorem roundtripAgreesWithChain : Obligations.RoundtripAgreesWithChain := by
  intro a b c s s1 s2 s3
  set g := extractFields a
  set d := decodeTriple g
  obtain ⟨t, ht, hraw, hdec, hval, -⟩ := exec_cases (.roundtrip a b c) s
  obtain ⟨t1, ht1, hraw1, -⟩ := exec_cases (.extract a b c) s1
  obtain ⟨t2, ht2, -, hdec2, -⟩ := exec_cases (.decode (packTriple g) b c) s2
  obtain ⟨t3, ht3, -, -, hval3, -⟩ := exec_cases (.reconstruct d.sunit d.eval d.mval) s3
  have hd : t2.dec = some d := hdec2.trans (by rw [decOf, packedTripleUnpacks]; rfl)
  exact ⟨t, t1, t2, t3, g, d, ht, ht1, hraw1, ht2, hd, ht3, hraw.trans hraw1.symm, hdec.trans hd.symm,
    hval.trans hval3.symm⟩

/-! ### The closed form by class (43_roundtrip.md R122) -/

section ClosedForm
variable {a : Word}

theorem isNormal_eq_true_iff : isNormal a = true ↔ expField a ≠ 0#8 ∧ expField a ≠ 255#8 := by
  have hlt := (expField a).isLt
  simp only [isNormal, Bool.and_eq_true, decide_eq_true_eq, ne_eq, BitVec.toNat_eq, BitVec.toNat_ofNat]
  omega

theorem roundtripByClass_of_isNormal (h : isNormal a = true) : roundtripByClass a = a :=
  if_pos h

theorem roundtripByClass_of_expField_255 (h : expField a = 255#8) :
    roundtripByClass a = packWord (signField a) 255#8 0#23 := by
  have hnormal : ¬ isNormal a = true := fun hn => (isNormal_eq_true_iff.1 hn).2 h
  have hclass : (isInf a || isNaN a) = true := by simp [isInf, isNaN, h, em]
  rw [roundtripByClass, if_neg hnormal, if_pos hclass]

theorem roundtripByClass_of_expField_zero (h : expField a = 0#8) :
    roundtripByClass a =
      (signField a).zeroExtend 32 <<< 31 ||| halfEven (0x800000#32 + (fracField a).zeroExtend 32) := by
  have hnormal : ¬ isNormal a = true := fun hn => (isNormal_eq_true_iff.1 hn).1 h
  have hclass : ¬ (isInf a || isNaN a) = true := by simp [isInf, isNaN, h]
  rw [roundtripByClass, if_neg hnormal, if_neg hclass]

/-- The pipeline computes the closed form: its three cases are those of the decoded triple (O37). -/
theorem roundtripValue_eq_roundtripByClass (a : Word) : roundtripValue a = roundtripByClass a := by
  rw [roundtripValue, reconstructOfDecodedTriple, extractFields_eq]
  dsimp only
  split_ifs with h255 h0
  · rw [roundtripByClass_of_expField_255 h255]
    generalize signField a = s
    revert s
    decide
  · rw [roundtripByClass_of_expField_zero h0]
  · rw [roundtripByClass_of_isNormal (isNormal_eq_true_iff.2 ⟨h0, h255⟩)]
    exact packWord_fields a

/-! ### Which words return (43_roundtrip.md R122, R123) -/

/-- A sign bit above 31 bits of magnitude. -/
theorem sign_or_eq_packWord (s : BitVec 1) {w : Word} (h : w.toNat < 2 ^ 31) :
    s.zeroExtend 32 <<< 31 ||| w = packWord s (expField w) (fracField w) := by
  have hsign : signField w = 0#1 := by
    have hfields := congrArg BitVec.toNat (packWord_fields w)
    rw [packWord_toNat] at hfields
    apply BitVec.eq_of_toNat_eq
    rw [BitVec.toNat_ofNat]
    omega
  have hzero : (0#1).zeroExtend 32 <<< 31 = 0#32 := rfl
  have hw := packWord_fields w
  rw [hsign, packWord, hzero, BitVec.zero_or] at hw
  rw [packWord, BitVec.or_assoc, hw]

theorem hiddenBit_add_toNat (m : BitVec 23) :
    (0x800000#32 + m.zeroExtend 32).toNat = 2 ^ 23 + m.toNat := by
  have hm := m.isLt
  rw [BitVec.toNat_add, BitVec.zeroExtend_eq_setWidth, BitVec.toNat_setWidth, BitVec.toNat_ofNat]
  omega

/-- Half of 1.m is above 0.m, whichever way it is rounded, and at most 1. -/
theorem halfEven_hiddenBit_bounds (m : BitVec 23) :
    m.toNat < (halfEven (0x800000#32 + m.zeroExtend 32)).toNat ∧
      (halfEven (0x800000#32 + m.zeroExtend 32)).toNat ≤ 2 ^ 23 := by
  have hm := m.isLt
  rw [halfEven_toNat, hiddenBit_add_toNat]
  rcases Nat.mod_two_eq_zero_or_one (2 ^ 23 + m.toNat) with h | h <;> rw [h] <;> omega

/-- A zero or subnormal comes back under its sign with a greater magnitude, at most the smallest normal. -/
theorem roundtripByClass_grows (h : expField a = 0#8) :
    ∃ e f, roundtripByClass a = packWord (signField a) e f ∧
      (fracField a).toNat < e.toNat * 2 ^ 23 + f.toNat ∧ e.toNat * 2 ^ 23 + f.toNat ≤ 2 ^ 23 := by
  obtain ⟨hlow, hhigh⟩ := halfEven_hiddenBit_bounds (fracField a)
  have hclosed := roundtripByClass_of_expField_zero h
  generalize halfEven (0x800000#32 + (fracField a).zeroExtend 32) = w at hlow hhigh hclosed
  rw [sign_or_eq_packWord _ (by omega)] at hclosed
  have hmag := packWord_toNat (signField w) (expField w) (fracField w)
  rw [packWord_fields] at hmag
  exact ⟨_, _, hclosed, by omega, by omega⟩

/-- The normals and the infinities are the words that return. -/
theorem roundtripByClass_eq_self_iff : roundtripByClass a = a ↔ isNormal a = true ∨ isInf a = true := by
  by_cases h255 : expField a = 255#8
  · have hnormal : ¬ isNormal a = true := fun h => (isNormal_eq_true_iff.1 h).2 h255
    rw [roundtripByClass_of_expField_255 h255, or_iff_right hnormal, isInf_eq_true_iff]
    refine ⟨fun h => ⟨h255, ?_⟩, fun ⟨he, hf⟩ => ?_⟩
    · rw [← h, packWord_fracField]
    · rw [← he, ← hf, packWord_fields]
  · by_cases h0 : expField a = 0#8
    · obtain ⟨e, f, hword, hgrows, -⟩ := roundtripByClass_grows h0
      have hleft : roundtripByClass a ≠ a := by
        intro h
        rw [hword] at h
        rw [← h, packWord_expField] at h0
        rw [← h, packWord_fracField, h0] at hgrows
        simp at hgrows
      simp [hleft, isNormal_eq_true_iff, isInf_eq_true_iff, h0]
    · have hnormal : isNormal a = true := isNormal_eq_true_iff.2 ⟨h0, h255⟩
      simp [roundtripByClass_of_isNormal hnormal, hnormal]

theorem roundtripByClass_not_nan_not_zero (a : Word) :
    isNaN (roundtripByClass a) = false ∧ isZero (roundtripByClass a) = false := by
  by_cases h255 : expField a = 255#8
  · rw [roundtripByClass_of_expField_255 h255]
    simp [isNaN, isZero]
  · by_cases h0 : expField a = 0#8
    · obtain ⟨e, f, hword, hgrows, hsmall⟩ := roundtripByClass_grows h0
      rw [hword]
      refine ⟨isNaN_packWord_eq_false fun he => ?_, Bool.eq_false_iff.2 fun hzero => ?_⟩
      · rw [he, BitVec.toNat_ofNat] at hsmall
        omega
      · obtain ⟨he, hf⟩ := isZero_eq_true_iff.1 hzero
        rw [packWord_expField] at he
        rw [packWord_fracField] at hf
        simp [he, hf] at hgrows
    · rw [roundtripByClass_of_isNormal (isNormal_eq_true_iff.2 ⟨h0, h255⟩)]
      simp [isNaN, isZero, h0, h255]

end ClosedForm

/-- The RES_VALUE of a ROUNDTRIP. -/
theorem exec_roundtrip_val (a b c : Word) (s : State) :
    ∃ t, exec (.roundtrip a b c) s = .next t ∧ t.val = some (roundtripByClass a) := by
  obtain ⟨t, ht, -, -, hval, -⟩ := exec_cases (.roundtrip a b c) s
  exact ⟨t, ht, hval.trans (congrArg some (roundtripValue_eq_roundtripByClass a))⟩

/-- Settles O39: the closed form of a normal word is the word. -/
theorem normalsRoundTripExactly : Obligations.NormalsRoundTripExactly := by
  intro a b c s hnormal
  obtain ⟨t, ht, hval⟩ := exec_roundtrip_val a b c s
  exact ⟨t, ht, by rw [hval, roundtripByClass_of_isNormal hnormal]⟩

/-- Settles O40: the pipeline computes the closed form, whose fixed points are the normals and the
infinities. -/
theorem roundtripResultByClass : Obligations.RoundtripResultByClass := by
  intro a b c s
  obtain ⟨t, ht, hval⟩ := exec_roundtrip_val a b c s
  exact ⟨t, ht, hval, by rw [hval, Option.some.injEq, roundtripByClass_eq_self_iff]⟩

/-- Settles O41: no case of the closed form is a NaN or a zero. -/
theorem roundtripNeverNanNorZero : Obligations.RoundtripNeverNanNorZero := by
  intro a b c s
  obtain ⟨t, ht, hval⟩ := exec_roundtrip_val a b c s
  exact ⟨t, _, ht, hval, roundtripByClass_not_nan_not_zero a⟩

/-! ### The CHECK after a ROUNDTRIP (60_exceptions.md R144) -/

/-- The faults after a CHECK of a RES_VALUE against the A the host remembers. -/
theorem State.hostCheck_faults {s : State} {v a : Word} (hval : s.val = some v)
    (ha : s.roundtripA = some a) :
    s.hostCheck.faults = if v = a then s.faults else .hostRoundtripMismatch a v :: s.faults := by
  simp only [State.hostCheck, hval, ha]
  split_ifs <;> rfl

/-- Where the host presented a ROUNDTRIP last and RES_VALUE is there, it is that ROUNDTRIP's result, and
the host remembers its A. -/
theorem State.Inv.roundtrip_result {s : State} (h : s.Inv) {a b c v : Word}
    (hpres : s.presented = some (.roundtrip a b c)) (hval : s.val = some v) :
    v = roundtripByClass a ∧ s.roundtripA = some a := by
  have hsome : s.val.isSome = true := by rw [hval]; rfl
  have hnoval : ¬ s.allNoval := fun ⟨_, _, hnone⟩ => by rw [hnone] at hval; cases hval
  obtain ⟨-, -, -, hresult⟩ := h.results_of_not_allNoval hnoval
  obtain ⟨-, -, -, hlatched, hremembers⟩ := h
  have hrequest : s.latched = .roundtrip a b c :=
    Option.some.inj ((hlatched (.inr hsome)).symm.trans hpres)
  rw [hrequest, hval] at hresult
  rw [hpres] at hremembers
  exact ⟨(Option.some.inj hresult).trans (roundtripValue_eq_roundtripByClass a), hremembers hsome rfl⟩

/-- Settles O56: the CHECK compares A with its closed form. -/
theorem checkPassesForNormalsAndInfinities : Obligations.CheckPassesForNormalsAndInfinities := by
  intro s a b c v rest hinv hpres hval hscript hmoves
  obtain ⟨rfl, ha⟩ := hinv.roundtrip_result hpres hval
  have hfaults := State.hostCheck_faults (s := { s.drawTurn with script := rest }) hval ha
  refine ⟨_, step_of_hostMoves hmoves hscript, ?_⟩
  rw [State.hostEffect, hfaults, ← roundtripByClass_eq_self_iff]
  by_cases h : roundtripByClass a = a <;> simp [h]

end Sys2Proof.Machine
end

section
/-! PROOF. The faults: what records one, when it becomes the outcome, and the halted host; the edge with
nothing to do (60_exceptions.md R140, R142 to R144, R152). -/

namespace Sys2Proof.Machine

/-! ### The edge with nothing to do (60_exceptions.md R152) -/

/-- Settles O14: with no fault recorded the idle edge answers a next state, and only `rst` moves on. -/
theorem idleEdgeChangesNothing : Obligations.IdleEdgeChangesNothing := by
  intro s hrst hbusy hvalid hfaults
  rw [clockEdge_of_idle hrst hbusy hvalid]
  exact ⟨s.passEdge, idleEdge_eq_next_iff.2 ⟨.inr hfaults, rfl⟩, s.sameCore_refl,
    s.sameRequestPort_refl, ⟨rfl, rfl, rfl, rfl, rfl⟩, rfl⟩

/-! ### How a step stops (60_exceptions.md R143) -/

section Stops
variable {s t : State}

/-- A step that stops is an edge where the host has no move: a host move always answers a next state. -/
theorem step_stops (h : ∀ t, step s ≠ .next t) : s.hostMoves = false ∧ step s = clockEdge s.drawTurn := by
  have hmoves : s.hostMoves = false := Bool.eq_false_iff.2 fun hmove => h _ (if_pos hmove)
  exact ⟨hmoves, step_of_not_hostMoves hmoves⟩

/-- Where the clock has nothing to do, the host moves exactly where it has a move (log 2). -/
theorem State.hostMoves_eq_hostReady_of_clockIdle (h : s.clockIdle = true) : s.hostMoves = s.hostReady := by
  rw [State.hostMoves, h, Bool.or_true, Bool.and_true]

/-- No step refuses. -/
theorem step_ne_refused (s : State) (r : Refusal) : step s ≠ .refused r := by
  intro h
  obtain ⟨-, hedge⟩ := step_stops (s := s) (by simp [h])
  exact clockEdge_stops.2 r (hedge.symm.trans h)

/-- A step answers a fault only where it is recorded and nothing is left to do (log 10). -/
theorem step_fault {f : Fault} (h : step s = .fault f) :
    f ∈ s.faults ∧ s.hostReady = false ∧ s.clockIdle = true := by
  obtain ⟨hmoves, hedge⟩ := step_stops (s := s) (by simp [h])
  obtain ⟨hidle, hhead⟩ : s.clockIdle = true ∧ s.faults.head? = some f :=
    (clockEdge_stops (s := s.drawTurn)).1 f (hedge.symm.trans h)
  rw [State.hostMoves_eq_hostReady_of_clockIdle hidle] at hmoves
  exact ⟨List.mem_of_head? hhead, hmoves, hidle⟩

/-- A step records at most one fault and clears none: an edge records none. -/
theorem step_faults (h : step s = .next t) : t.faults = s.faults ∨ ∃ f, t.faults = f :: s.faults := by
  rcases step_effect_cases h with ⟨x, rest, -, -, rfl⟩ | ⟨-, hedge⟩
  · exact State.hostEffect_faults _ x
  · exact .inl (clockEdge_faults hedge).1

end Stops

/-- Settles O49: the cases of `Fault`, and what a step does to the record. -/
theorem faultsStayRecorded : Obligations.FaultsStayRecorded := by
  refine ⟨fun f => ?_, step_ne_refused, fun s t => step_faults, fun s hfaults hend => ?_⟩
  · cases f with
    | readNoValue r => exact .inl ⟨r, rfl⟩
    | hostRoundtripMismatch a v => exact .inr ⟨a, v, rfl⟩
  · obtain ⟨-, -, hnoFault⟩ := hend
    exact hfaults hnoFault

/-- Settles O50: a step that stops is an edge with nothing to do, and no edge records a fault. -/
theorem faultOutcomeOnlyAtTheEnd : Obligations.FaultOutcomeOnlyAtTheEnd :=
  ⟨fun _ _ => step_fault, fun _ _ h => (clockEdge_faults h).1⟩

/-! ### READ and the valid bits (60_exceptions.md R142) -/

section GroupValid
variable {s t : State}

/-- The valid bits stand in STATUS. -/
theorem State.groupValid_congr (h : t.status = s.status) (r : Reg) : t.groupValid r = s.groupValid r := by
  cases r <;> simp only [State.groupValid, State.rawV, State.decV, State.valV, h]

/-- With the three valid bits 0 no result register is valid. -/
theorem State.groupValid_of_cleared (hraw : s.rawV = false) (hdec : s.decV = false) (hval : s.valV = false)
    {r : Reg} (hr : r ≠ .status) : s.groupValid r = false := by
  cases r with
  | status => exact absurd rfl hr
  | _ => assumption

/-- A register returns a value exactly where its group is valid. -/
theorem State.Inv.groupValid_eq_isSome (h : s.Inv) (r : Reg) : s.groupValid r = (s.readReg r).isSome := by
  obtain ⟨⟨hraw, hdec, hval⟩, -⟩ := h
  cases r <;> simp [State.groupValid, State.readReg, hraw, hdec, hval]

/-- While an operation is in flight no result register is valid. -/
theorem State.Inv.groupValid_of_busy (h : s.Inv) (hbusy : s.busy = true) {r : Reg} (hr : r ≠ .status) :
    s.groupValid r = false := by
  obtain ⟨⟨hrawV, hdecV, hvalV⟩, ⟨-, hnoval⟩, -⟩ := h
  obtain ⟨hraw, hdec, hval⟩ := hnoval hbusy
  exact State.groupValid_of_cleared (by rw [hrawV, hraw]; rfl) (by rw [hdecV, hdec]; rfl)
    (by rw [hvalV, hval]; rfl) hr

/-- After an ACCEPT no result register is valid (10_state.md R29). -/
theorem State.accept_groupValid (s : State) {r : Reg} (hr : r ≠ .status) : s.accept.groupValid r = false :=
  State.groupValid_of_cleared s.accept_rawV s.accept_decV s.accept_valV hr

/-- After a reset edge no result register is valid (70_reset_and_hazards.md R160). -/
theorem State.resetCore_groupValid (s : State) {r : Reg} (hr : r ≠ .status) :
    s.resetCore.groupValid r = false :=
  State.groupValid_of_cleared s.resetCore_rawV s.resetCore_decV s.resetCore_valV hr

/-- No step of the host makes a group valid. -/
theorem State.hostEffect_groupValid (s : State) (x : HostStep) {r : Reg} (h : s.groupValid r = false) :
    (s.hostEffect x).groupValid r = false := by
  have hr : r ≠ .status := by rintro rfl; cases h
  rcases s.hostEffect_cases x with ⟨i, -, heq⟩ | ⟨-, heq⟩ | ⟨⟨hstatus, -⟩, -⟩
  · rw [heq]; exact State.accept_groupValid _ hr
  · rw [heq]; exact State.resetCore_groupValid _ hr
  · rw [State.groupValid_congr hstatus, h]

/-- An edge that is no COMPLETE makes no group valid. -/
theorem clockEdge_groupValid (h : clockEdge s = .next t) {r : Reg} (hbefore : s.groupValid r = false) :
    t.groupValid r = false ∨ s.busy = true ∧ t.busy = false := by
  have hr : r ≠ .status := by rintro rfl; cases hbefore
  rcases clockEdge_cases h with ⟨-, rfl⟩ | ⟨-, hbusy, -, hexec⟩ | ⟨-, -, -, rfl⟩ | ⟨-, -, -, rfl⟩ |
    ⟨-, -, -, rfl⟩
  · exact .inl (State.resetCore_groupValid _ hr)
  · obtain ⟨u, hu, -, -, -, -, -, -, ubusy, -⟩ := exec_cases s.latched s.passEdge.noteCompleted
    obtain rfl : u = t := Host.Outcome.next.inj (hu.symm.trans hexec)
    exact .inr ⟨hbusy, ubusy⟩
  · exact .inl hbefore
  · exact .inl (State.accept_groupValid _ hr)
  · exact .inl hbefore

/-- Nor does any other step. -/
theorem step_groupValid (h : step s = .next t) {r : Reg} (hbefore : s.groupValid r = false) :
    t.groupValid r = false ∨ s.busy = true ∧ t.busy = false := by
  rcases step_effect_cases h with ⟨x, rest, -, -, rfl⟩ | ⟨-, hedge⟩
  · exact .inl (State.hostEffect_groupValid { s.drawTurn with script := rest } x hbefore)
  · exact clockEdge_groupValid (s := s.drawTurn) hedge hbefore

/-- A group the last request does not write is not valid. -/
theorem State.Inv.valid_bits_of_unwritten (h : s.Inv) :
    (rawOf s.latched = none → s.rawV = false) ∧ (decOf s.latched = none → s.decV = false) ∧
      (valOf s.latched = none → s.valV = false) := by
  obtain ⟨⟨hrawV, hdecV, hvalV⟩, -, hgroups, -⟩ := h
  rw [hrawV, hdecV, hvalV]
  rcases hgroups with ⟨hraw, hdec, hval⟩ | ⟨hraw, hdec, hval⟩
  all_goals simp [hraw, hdec, hval]

end GroupValid

/-- Settles O51: a register returns a value exactly where its group is valid, and only a COMPLETE makes one
valid. -/
theorem readOfInvalidGroupFaults : Obligations.ReadOfInvalidGroupFaults := by
  refine ⟨fun s r rest hinv hscript hmoves => ?_, fun _ => rfl, fun s r hinv hbusy hr => ?_, fun r hr => ?_,
    fun s t r hstep hbefore hafter => ?_, fun s hinv => hinv.valid_bits_of_unwritten⟩
  · set u : State := { s.drawTurn with script := rest }
    have hreg : u.readReg r = s.readReg r := by cases r <;> rfl
    have hvalid := hinv.groupValid_eq_isSome r
    obtain ⟨-, -, -, hrest, -⟩ := u.hostRead_frame r
    refine ⟨u.hostRead r, step_of_hostMoves hmoves hscript, hrest, ?_⟩
    cases hread : s.readReg r with
    | none =>
      rw [State.hostRead_none (hreg.trans hread), hvalid, hread]
      exact ⟨fun _ => ⟨rfl, rfl⟩, fun h => by cases h⟩
    | some v =>
      rw [State.hostRead_some (hreg.trans hread), hvalid, hread]
      exact ⟨fun h => (by cases h), fun _ => ⟨rfl, v, rfl, rfl⟩⟩
  · exact hinv.groupValid_of_busy hbusy hr
  · exact ⟨State.groupValid_of_cleared rfl rfl rfl hr, fun s => s.resetCore_groupValid hr⟩
  · exact (step_groupValid hstep hbefore).resolve_left (by simp [hafter])

/-! ### CHECK and the halted host (60_exceptions.md R144) -/

section Check
variable {s t : State}

/-- The A of a ROUNDTRIP, and of no other request. -/
theorem roundtripOperand_eq_some_iff {p : Option Instr} {a : Word} :
    roundtripOperand p = some a ↔ ∃ b c, p = some (.roundtrip a b c) := by
  rcases p with - | (_ | _ | _ | _) <;> simp [roundtripOperand]

/-- No step of the host changes the A it remembers. -/
theorem State.hostEffect_roundtripA (s : State) (x : HostStep) :
    (s.hostEffect x).roundtripA = s.roundtripA := by
  rcases s.hostEffect_cases x with ⟨i, -, heq⟩ | ⟨-, heq⟩ | ⟨-, -, -, -, heq⟩
  · rw [heq]; rfl
  · rw [heq]; rfl
  · exact heq

/-- A COMPLETE leaves the host with the A of the ROUNDTRIP it had presented, if it was one (log 12). -/
theorem exec_noteCompleted_roundtripA (i : Instr) (s : State) :
    ∃ t, exec i s.noteCompleted = .next t ∧ t.busy = false ∧
      t.roundtripA = (roundtripOperand s.presented).or s.roundtripA := by
  obtain ⟨t, ht, -, -, -, -, -, -, hbusy, -, -, -, -, ⟨-, -, hrt, -⟩, -⟩ := exec_cases i s.noteCompleted
  exact ⟨t, ht, hbusy, hrt⟩

/-- Only the COMPLETE of a ROUNDTRIP changes the A the host remembers. -/
theorem clockEdge_roundtripA (h : clockEdge s = .next t) : t.roundtripA = s.roundtripA ∨
    s.busy = true ∧ t.busy = false ∧ ∃ a b c, s.presented = some (.roundtrip a b c) ∧
      t.roundtripA = some a := by
  rcases clockEdge_cases h with ⟨-, rfl⟩ | ⟨-, hbusy, -, hexec⟩ | ⟨-, -, -, rfl⟩ | ⟨-, -, -, rfl⟩ |
    ⟨-, -, -, rfl⟩
  · exact .inl rfl
  · obtain ⟨u, hu, ubusy, hrt⟩ := exec_noteCompleted_roundtripA s.latched s.passEdge
    obtain rfl : u = t := Host.Outcome.next.inj (hu.symm.trans hexec)
    rw [State.passEdge_presented, State.passEdge_roundtripA] at hrt
    cases hoperand : roundtripOperand s.presented with
    | none => exact .inl (by rw [hrt, hoperand, Option.none_or])
    | some a =>
      obtain ⟨b, c, hpres⟩ := roundtripOperand_eq_some_iff.1 hoperand
      exact .inr ⟨hbusy, ubusy, a, b, c, hpres, by rw [hrt, hoperand, Option.some_or]⟩
  · exact .inl rfl
  · exact .inl rfl
  · exact .inl rfl

/-- A step of a halted host is an edge, which neither takes a step of the host nor clears the fault. -/
theorem step_of_halted (h : step s = .next t) (hhalted : s.hostHalted = true) :
    t.hostHalted = true ∧ t.script = s.script := by
  rw [step_of_not_hostMoves (State.hostMoves_of_halted hhalted)] at h
  obtain ⟨hfaults, hscript⟩ := clockEdge_faults h
  exact ⟨by rwa [State.hostHalted, hfaults], hscript⟩

/-- A halted host takes no further step in any run. -/
theorem run_of_halted {n : Nat} (hhalted : s.hostHalted = true)
    (hrun : Sys2Proof.core.run n s = .next t) : t.hostMoves = false ∧ t.script = s.script := by
  induction n generalizing s with
  | zero =>
    obtain rfl : s = t := Host.Outcome.next.inj hrun
    exact ⟨State.hostMoves_of_halted hhalted, rfl⟩
  | succ n ih =>
    cases hstep : step s with
    | next u =>
      obtain ⟨hu, hscript⟩ := step_of_halted hstep hhalted
      rw [run_succ n hstep] at hrun
      rw [← hscript]
      exact ih hu hrun
    | fault f => simp [Host.Core.run, Sys2Proof.core, hstep] at hrun
    | refused r => simp [Host.Core.run, Sys2Proof.core, hstep] at hrun

/-- On its turn, or with nothing for the clock to do, a live host takes an enabled step (log 2). -/
theorem State.hostMoves_of_turn {x : HostStep} {rest : List HostStep}
    (hturn : s.turn = .host ∨ s.clockIdle = true) (hlive : s.hostHalted = false)
    (hscript : s.script = x :: rest) (henabled : s.stepEnabled x = true) : s.hostMoves = true := by
  simp [State.hostMoves, State.hostReady, hscript, hlive, henabled, hturn]

/-- A CHECK of a RES_VALUE that holds nothing (60_exceptions.md R142). -/
theorem State.hostCheck_faults_none (h : s.val = none) :
    s.hostCheck.faults = .readNoValue .resValue :: s.faults := by
  simp only [State.hostCheck, h, State.recordFault_faults]

end Check

/-- Settles O55: the host remembers the A at the COMPLETE of its ROUNDTRIP, the CHECK compares RES_VALUE
with it, and a mismatch halts the host for good. -/
theorem checkComparesResultWithOperand : Obligations.CheckComparesResultWithOperand := by
  refine ⟨fun s t hstep => ?_, fun s a b c hinv hrst hbusy hleft hmoves hlatched => ?_,
    fun s rest hscript => ⟨fun hnone => ?_, fun hsome hlive hturn => ?_⟩,
    fun s a rest hscript ha hmoves => ?_⟩
  · rcases step_effect_cases hstep with ⟨x, rest, -, -, rfl⟩ | ⟨-, hedge⟩
    · exact .inl (State.hostEffect_roundtripA _ x)
    · exact clockEdge_roundtripA (s := s.drawTurn) hedge
  · obtain ⟨-, -, -, hpres, -⟩ := hinv
    obtain ⟨t, ht, -, hrt⟩ := exec_noteCompleted_roundtripA s.latched s.drawTurn.passEdge
    refine ⟨t, (stepRunsLatchedRequest s hrst hbusy hleft hmoves).trans ht, ?_⟩
    rw [hrt, State.passEdge_presented, State.drawTurn_presented, hpres (.inl hbusy), hlatched]
    rfl
  · exact State.hostMoves_of_not_enabled hscript (by rw [State.stepEnabled, hnone]; rfl)
  · exact State.hostMoves_of_turn hturn hlive hscript (Option.isSome_iff_ne_none.2 hsome)
  · set u : State := { s.drawTurn with script := rest }
    obtain ⟨hcore, -, -, hrest, -⟩ := u.hostCheck_frame
    refine ⟨u.hostCheck, step_of_hostMoves hmoves hscript, hrest, hcore, fun hval => ?_, fun hval => ?_,
      fun v hval hne => ?_⟩
    · exact State.hostCheck_faults_none (s := u) hval
    · exact (State.hostCheck_faults (s := u) hval ha).trans (if_pos rfl)
    · have hfaults := (State.hostCheck_faults (s := u) hval ha).trans (if_neg hne)
      have hhalted : u.hostCheck.hostHalted = true := by
        rw [State.hostHalted, hfaults]; rfl
      refine ⟨hfaults, fun n w hrun => ?_⟩
      obtain ⟨hstays, hscript'⟩ := run_of_halted hhalted hrun
      exact ⟨hstays, hscript'.trans hrest⟩

end Sys2Proof.Machine
end

section
/-! PROOF. Reset, the operation in flight, and the host's steps on the CORE and the ports
(70_reset_and_hazards.md R160 to R170). -/

namespace Sys2Proof.Machine

/-! ### Reset edges (70_reset_and_hazards.md R160, R161) -/

theorem clockEdge_of_rst {s : State} (h : s.rst = true) : clockEdge s = .next s.passEdge.resetCore :=
  if_pos h

/-- Settles O11: the reset edge keeps the request on the port, and the edge after it is its ACCEPT. -/
theorem resetWinsOverAcceptAndComplete : Obligations.ResetWinsOverAcceptAndComplete := by
  intro s hrst
  refine ⟨_, clockEdge_of_rst hrst, rfl, ⟨rfl, rfl, rfl⟩, rfl, s.sameRequestPort_refl,
    ⟨rfl, rfl, rfl, rfl, rfl⟩, fun hlow hvalid => ?_⟩
  exact ⟨_, clockEdge_of_accept hlow (State.resetCore_busy _) hvalid, State.accept_busy _, rfl⟩

/-- With no step of the host, no level of `rst` and no request to come, nothing in flight and no fault
recorded, a step changes nothing (60_exceptions.md R152). -/
theorem step_of_nothing_left {s : State} (hscript : s.script = []) (hplan : s.rstPlan = [])
    (hbusy : s.busy = false) (hvalid : s.reqValid = false) (hfaults : s.faults = []) :
    step s = .next s := by
  rw [step_of_nil hscript, clockEdge_of_idle (State.rst_of_nil hplan) hbusy hvalid]
  exact idleEdge_eq_next_iff.2 ⟨.inr hfaults, (State.passEdge_of_nil hplan).symm⟩

/-- A state that a step does not change is where every run from it ends. -/
theorem run_of_fixed {s : State} (h : step s = .next s) (n : Nat) : Sys2Proof.core.run n s = .next s := by
  induction n with
  | zero => rfl
  | succ n ih => rw [run_succ n h, ih]

/-- A reset edge with no step of the host left. -/
theorem step_of_reset_edge {s : State} {rest : List Bool} (hscript : s.script = [])
    (hplan : s.rstPlan = true :: rest) :
    step s = .next s.passEdge.resetCore ∧ s.passEdge.resetCore.rstPlan = rest := by
  have hrst : s.rst = true := by rw [State.rst, hplan]; rfl
  rw [step_of_nil hscript, clockEdge_of_rst hrst, State.resetCore_rstPlan, State.passEdge_rstPlan, hplan]
  exact ⟨rfl, rfl⟩

/-- Settles O12, by induction on the reset edges: after the last one nothing is left to do. -/
theorem resetAbandonsOperation : Obligations.ResetAbandonsOperation := by
  intro s k n hscript hvalid hfaults hplan
  induction k generalizing s with
  | zero =>
    obtain ⟨hstep, hrest⟩ := step_of_reset_edge hscript hplan
    have hfixed : step s.passEdge.resetCore = .next s.passEdge.resetCore :=
      step_of_nothing_left hscript hrest (State.resetCore_busy _) hvalid hfaults
    rw [Nat.zero_add, Nat.add_comm, run_succ n hstep, run_of_fixed hfixed]
    exact ⟨_, rfl, rfl, ⟨rfl, rfl, rfl⟩, rfl⟩
  | succ k ih =>
    obtain ⟨hstep, hrest⟩ := step_of_reset_edge hscript hplan
    rw [Nat.add_right_comm, run_succ _ hstep]
    exact ih _ hscript hvalid hfaults hrest

/-! ### The operation in flight and the request port (70_reset_and_hazards.md R165) -/

/-- The state with another request, or none, on the port. -/
def State.withRequestPort (s : State) (v : Bool) (op : BitVec 2) (a b c : Word) : State :=
  { s with reqValid := v, reqOp := op, reqA := a, reqB := b, reqC := c }

/-- A COMPLETE does not see the request port. -/
theorem exec_withRequestPort {i : Instr} {s t : State} (h : exec i s = .next t) (v : Bool) (op : BitVec 2)
    (a b c : Word) :
    exec i (s.withRequestPort v op a b c) = .next (t.withRequestPort v op a b c) := by
  cases i <;> (obtain rfl := Host.Outcome.next.inj h; rfl)

/-- Nor does any edge of an operation in flight. -/
theorem clockEdge_withRequestPort {s t : State} (hrst : s.rst = false) (hbusy : s.busy = true)
    (h : clockEdge s = .next t) (v : Bool) (op : BitVec 2) (a b c : Word) :
    clockEdge (s.withRequestPort v op a b c) = .next (t.withRequestPort v op a b c) := by
  by_cases hleft : s.left ≤ 1
  · rw [clockEdge_of_complete hrst hbusy hleft] at h
    exact (clockEdge_of_complete (s := s.withRequestPort v op a b c) hrst hbusy hleft).trans
      (exec_withRequestPort h v op a b c)
  · have hleft : 1 < s.left := Nat.lt_of_not_le hleft
    rw [clockEdge_of_countDown hrst hbusy hleft] at h
    obtain rfl := Host.Outcome.next.inj h
    exact clockEdge_of_countDown (s := s.withRequestPort v op a b c) hrst hbusy hleft

/-- Settles O15: the ready edge latches the request on the port, and no edge after it sees the port. -/
theorem operationInFlightIgnoresPorts : Obligations.OperationInFlightIgnoresPorts := by
  refine ⟨fun s hrst hbusy hvalid => ?_, fun s t v op a b c hrst hbusy h => ?_⟩
  · exact ⟨_, clockEdge_of_accept hrst hbusy hvalid, State.accept_busy _, rfl⟩
  · exact ⟨_, clockEdge_withRequestPort hrst hbusy h v op a b c, t.sameCore_refl⟩

/-! ### Every accepted operation completes (70_reset_and_hazards.md R168) -/

/-- The request has completed, and the groups hold exactly its results. -/
def State.holdsResultsOf (t : State) (i : Instr) : Prop :=
  t.busy = false ∧ t.raw = rawOf i ∧ t.dec = decOf i ∧ t.val = valOf i

/-- An operation is in flight, and no reset is to come, from the platform or by a step of the host. -/
def State.inFlightForGood (s : State) : Prop :=
  s.Inv ∧ s.busy = true ∧ (∀ x ∈ s.rstPlan, x = false) ∧ HostStep.reset ∉ s.script

theorem State.rst_of_all_low {s : State} (h : ∀ x ∈ s.rstPlan, x = false) : s.rst = false := by
  rw [State.rst]
  cases hplan : s.rstPlan with
  | nil => rfl
  | cons x rest => exact h x (by simp [hplan])

/-- A move of the host is a step that is enabled. -/
theorem State.stepEnabled_of_hostMoves {s : State} {x : HostStep} {rest : List HostStep}
    (hscript : s.script = x :: rest) (hmoves : s.hostMoves = true) : s.stepEnabled x = true := by
  by_contra h
  exact absurd (State.hostMoves_of_not_enabled hscript (Bool.eq_false_iff.2 h)) (by simp [hmoves])

/-- An issue is enabled while BUSY is 0 and no reset comes at that edge (R170). -/
theorem State.stepEnabled_issue (s : State) (i : Instr) :
    s.stepEnabled (.issue i) = true ↔ s.busy = false ∧ s.rst = false := by
  simp [State.stepEnabled]

/-- `t` is one step nearer to the COMPLETE of the operation in flight in `s`: one step of the host or one
edge fewer is left. -/
def State.nearerComplete (s t : State) : Prop :=
  t.inFlightForGood ∧ t.latched = s.latched ∧ t.script.length + t.left + 1 = s.script.length + s.left

namespace State.inFlightForGood
variable {s : State}

/-- An edge is left to it. -/
theorem left_pos (h : s.inFlightForGood) : 0 < s.left := by
  obtain ⟨⟨-, ⟨hleft, -⟩, -⟩, hbusy, -⟩ := h
  exact hleft.1 hbusy

/-- A move of the host leaves the CORE alone: an issue waits for BUSY to be 0 (R170). -/
theorem hostEffect_sameCore (h : s.inFlightForGood) {x : HostStep} {rest : List HostStep}
    (hscript : s.script = x :: rest) (hmoves : s.hostMoves = true) :
    s.sameCore ({ s.drawTurn with script := rest }.hostEffect x) ∧
      ({ s.drawTurn with script := rest }.hostEffect x).rstPlan = s.rstPlan := by
  obtain ⟨-, hbusy, -, hreset⟩ := h
  rcases State.hostEffect_cases { s.drawTurn with script := rest } x with
    ⟨i, rfl, -⟩ | ⟨rfl, -⟩ | ⟨hcore, hplan, -⟩
  · have hready := ((s.stepEnabled_issue i).1 (State.stepEnabled_of_hostMoves hscript hmoves)).1
    simp [hbusy] at hready
  · simp [hscript] at hreset
  · exact ⟨hcore, hplan⟩

/-- A move of the host takes its step off the script, and the operation stays in flight. -/
theorem step_of_move (h : s.inFlightForGood) (hmoves : s.hostMoves = true) :
    ∃ t, step s = .next t ∧ s.nearerComplete t := by
  obtain ⟨x, rest, hscript, -⟩ := State.hostMove_cases (State.hostReady_of_hostMoves hmoves)
  have hstep := step_of_hostMoves hmoves hscript
  obtain ⟨⟨hstatus, -, hlatch, -, hleft⟩, hplan⟩ := h.hostEffect_sameCore hscript hmoves
  have hrest := State.hostEffect_script { s.drawTurn with script := rest } x
  obtain ⟨hinv, hbusy, hlow, hreset⟩ := h
  refine ⟨_, hstep, ⟨stepKeepsInvariant _ _ hinv hstep, ?_, ?_, ?_⟩,
    State.latched_eq_of_sameLatch hlatch, ?_⟩
  · rwa [State.busy, hstatus]
  · rwa [hplan]
  · rw [hrest]
    exact fun hmem => hreset (hscript ▸ List.mem_cons_of_mem _ hmem)
  · rw [hrest, hleft, hscript, List.length_cons]
    exact Nat.add_right_comm ..

/-- An edge is the COMPLETE, or one of the edges before it. -/
theorem step_of_edge (h : s.inFlightForGood) (hmoves : s.hostMoves = false) :
    ∃ t, step s = .next t ∧ (t.holdsResultsOf s.latched ∨ s.nearerComplete t) := by
  obtain ⟨hinv, hbusy, hlow, hreset⟩ := h
  have hrst : s.drawTurn.rst = false := State.rst_of_all_low hlow
  have hstep := step_of_not_hostMoves hmoves
  by_cases hleft : s.left ≤ 1
  · obtain ⟨-, ⟨-, hnoval⟩, -⟩ := hinv
    obtain ⟨t, ht, hdone⟩ :=
      exec_of_allNoval s.latched (s := s.drawTurn.passEdge.noteCompleted) (hnoval hbusy)
    rw [clockEdge_of_complete (s := s.drawTurn) hrst hbusy hleft] at hstep
    exact ⟨t, hstep.trans ht, .inl hdone⟩
  · rw [clockEdge_of_countDown (s := s.drawTurn) hrst hbusy (Nat.lt_of_not_le hleft)] at hstep
    have hless : s.script.length + (s.left - 1) + 1 = s.script.length + s.left := by omega
    exact ⟨_, hstep, .inr ⟨⟨stepKeepsInvariant _ _ hinv hstep, hbusy,
      fun x hx => hlow x (List.mem_of_mem_tail hx), hreset⟩, rfl, hless⟩⟩

/-- A step completes it or brings it nearer, whoever moves. -/
theorem step_cases (h : s.inFlightForGood) :
    ∃ t, step s = .next t ∧ (t.holdsResultsOf s.latched ∨ s.nearerComplete t) := by
  cases hmoves : s.hostMoves with
  | true => exact (h.step_of_move hmoves).imp fun _ ⟨hstep, hnearer⟩ => ⟨hstep, .inr hnearer⟩
  | false => exact h.step_of_edge hmoves

/-- So it completes within as many steps as there are of both. -/
theorem completes (h : s.inFlightForGood) : ∃ n t, n ≤ s.script.length + s.left ∧
    Sys2Proof.core.run n s = .next t ∧ t.holdsResultsOf s.latched := by
  induction hm : s.script.length + s.left using Nat.strong_induction_on generalizing s with
  | _ m ih =>
    have hpos := h.left_pos
    obtain ⟨t, hstep, hdone | ⟨ht, hlatched, hless⟩⟩ := h.step_cases
    · exact ⟨1, t, by omega, run_succ 0 hstep, hdone⟩
    · obtain ⟨n, u, hn, hrun, hdone⟩ := ih _ (by omega) ht rfl
      exact ⟨n + 1, u, by omega, (run_succ n hstep).trans hrun, hlatched ▸ hdone⟩

end State.inFlightForGood

/-- Settles O48: each step completes the operation or uses up a step of the host or an edge. -/
theorem acceptedOperationCompletes : Obligations.AcceptedOperationCompletes :=
  fun _ hinv hbusy hlow hreset => State.inFlightForGood.completes ⟨hinv, hbusy, hlow, hreset⟩

/-! ### The steps of the host (70_reset_and_hazards.md R164, R165, R170) -/

/-- On its turn, or with nothing for the clock to do, a live host moves exactly where its next step is
enabled (log 2). -/
theorem State.hostMoves_iff_stepEnabled {s : State} {x : HostStep} {rest : List HostStep}
    (hscript : s.script = x :: rest) (hlive : s.hostHalted = false)
    (hturn : s.turn = .host ∨ s.clockIdle = true) : s.hostMoves = true ↔ s.stepEnabled x = true :=
  ⟨State.stepEnabled_of_hostMoves hscript, State.hostMoves_of_turn hturn hlive hscript⟩

/-- Settles O53: a WAIT is enabled exactly while BUSY is 0, and has no effect. -/
theorem waitHoldsHostWhileBusy : Obligations.WaitHoldsHostWhileBusy := by
  intro s rest hscript
  refine ⟨fun hbusy => ?_, fun hbusy hlive hturn => ?_, fun hmoves => ?_⟩
  · exact State.hostMoves_of_not_enabled hscript (by simp [State.stepEnabled, hbusy])
  · exact State.hostMoves_of_turn hturn hlive hscript (by simp [State.stepEnabled, hbusy])
  · exact ⟨_, step_of_hostMoves hmoves hscript, rfl, s.sameCore_refl, rfl, s.sameRequestPort_refl,
      rfl, rfl, rfl, rfl⟩

/-- WAIT, READ, CHECK and holding a request change neither the CORE nor the ports (60_exceptions.md R147). -/
theorem State.hostEffect_observes (s : State) {x : HostStep}
    (h : x = .wait ∨ x = .check ∨ x = .hold ∨ ∃ r, x = .read r) :
    s.sameCore (s.hostEffect x) ∧ (s.hostEffect x).rstPlan = s.rstPlan ∧
      s.sameRequestPort (s.hostEffect x) := by
  rcases h with rfl | rfl | rfl | ⟨r, rfl⟩
  · exact ⟨s.sameCore_refl, rfl, s.sameRequestPort_refl⟩
  · obtain ⟨hcore, hport, hplan, -⟩ := s.hostCheck_frame
    exact ⟨hcore, hplan, hport⟩
  · exact ⟨s.sameCore_refl, rfl, s.sameRequestPort_refl⟩
  · obtain ⟨hcore, hport, hplan, -⟩ := s.hostRead_frame r
    exact ⟨hcore, hplan, hport⟩

/-- A request that is driven waits exactly where `req_valid` is 1: an accepted one that is changed is a new
one (R164; log 13). -/
theorem State.driveRequest_waits (s : State) (i : Instr) : (s.driveRequest i).waits = s.reqValid := by
  cases hhold : s.reqHold <;> simp [State.waits, State.driveRequest, hhold]

/-- Settles O52: which steps are enabled, then the effect of each. -/
theorem hostStepsOnCoreAndPorts : Obligations.HostStepsOnCoreAndPorts := by
  refine ⟨fun s x rest hscript hlive hturn => ?_, fun s x rest hscript hmoves => ?_⟩
  · rw [State.hostMoves_iff_stepEnabled hscript hlive hturn]
    refine ⟨?_, ?_, ?_, ?_⟩
    · rintro (rfl | ⟨r, rfl⟩ | ⟨i, k, rfl⟩ | ⟨i, rfl⟩) <;> rfl
    · rintro ⟨i, rfl⟩; exact s.stepEnabled_issue i
    · rintro rfl; simp [State.stepEnabled]
    · rintro rfl; simp [State.stepEnabled]
  · have henabled := State.stepEnabled_of_hostMoves hscript hmoves
    have hcore := s.sameCore_refl
    set u : State := { s.drawTurn with script := rest }
    refine ⟨u.hostEffect x, step_of_hostMoves hmoves hscript, u.hostEffect_script x,
      u.hostEffect_observes, ?_, ?_, ?_, ?_, ?_⟩
    · rintro i k rfl
      exact ⟨hcore, rfl, ⟨rfl, rfl, rfl, rfl⟩, u.present_offered i k, rfl, rfl⟩
    · rintro i rfl
      exact ⟨hcore, rfl, ⟨rfl, rfl, rfl, rfl⟩, u.driveRequest_offered i, rfl, u.driveRequest_waits i⟩
    · rintro rfl
      exact ⟨hcore, rfl, ⟨rfl, rfl, rfl, rfl⟩, eq_of_beq henabled, rfl, rfl⟩
    · rintro rfl
      exact ⟨rfl, ⟨rfl, rfl, rfl⟩, rfl, s.sameRequestPort_refl, ⟨rfl, rfl, rfl, rfl⟩, rfl⟩
    · rintro i rfl
      obtain ⟨hbusy, hrst⟩ := (s.stepEnabled_issue i).1 henabled
      have hoffered := u.present_offered i false
      exact ⟨hbusy, hrst, hoffered, congrArg some hoffered, rfl, ⟨rfl, rfl, rfl⟩, latency_pos _ _ _,
        rfl, rfl⟩

/-! ### A waiting request (70_reset_and_hazards.md R164) -/

theorem State.offered_eq_of_sameRequestPort {s t : State} (h : s.sameRequestPort t) :
    t.offered = s.offered := by
  obtain ⟨-, hop, ha, hb, hc, -⟩ := h
  rw [State.offered, State.offered, hop, ha, hb, hc]

theorem State.waits_eq_of_sameRequestPort {s t : State} (h : s.sameRequestPort t) : t.waits = s.waits := by
  obtain ⟨hvalid, -, -, -, -, hhold⟩ := h
  rw [State.waits, State.waits, hvalid, hhold]

/-- After its ACCEPT a request waits no more, whether the host drops it or holds it (log 13). -/
theorem State.accept_waits (s : State) : s.accept.waits = false := by
  cases hhold : s.reqHold <;> simp [State.waits, hhold, validAfterAccept, holdAfterAccept]

/-- An edge is the ACCEPT of the request on the port, or keeps the port: it is no ready edge (10_state.md
R29). -/
theorem clockEdge_keeps_or_accepts {s t : State} (h : clockEdge s = .next t) : s.sameRequestPort t ∨
    s.busy = false ∧ t.busy = true ∧ t.waits = false ∧ t.latched = s.offered := by
  by_cases hready : s.rst = false ∧ s.reqValid = true ∧ s.busy = false
  · obtain ⟨hrst, hvalid, hbusy⟩ := hready
    obtain rfl := Host.Outcome.next.inj ((clockEdge_of_accept hrst hbusy hvalid).symm.trans h)
    exact .inr ⟨hbusy, State.accept_busy _, State.accept_waits _, rfl⟩
  · obtain ⟨-, hport, -⟩ := acceptOnlyAtReadyEdge.2 s t hready h
    exact .inl hport

/-- A waiting request stays as it is through an edge, or is the one accepted there. -/
theorem clockEdge_of_waits {s t : State} (hwaits : s.waits = true) (h : clockEdge s = .next t) :
    t.waits = true ∧ t.offered = s.offered ∨
      s.busy = false ∧ t.busy = true ∧ t.waits = false ∧ t.latched = s.offered :=
  (clockEdge_keeps_or_accepts h).imp_left fun hport =>
    ⟨(State.waits_eq_of_sameRequestPort hport).trans hwaits, State.offered_eq_of_sameRequestPort hport⟩

/-- Settles O54: of the host's steps only an issue, of the edges only the ACCEPT ends the wait. -/
theorem hostWaitsForAccept : Obligations.HostWaitsForAccept := by
  refine ⟨fun s t hwaits hstep => ?_, fun s t hwaits hmoves hstep => ?_, fun s rest hwaits hscript => ?_⟩
  · rcases step_effect_cases hstep with ⟨x, rest, hmoves, hscript, rfl⟩ | ⟨-, hedge⟩
    · have henabled := State.stepEnabled_of_hostMoves hscript hmoves
      rcases State.hostEffect_waits { s.drawTurn with script := rest } x hwaits henabled with
        hstill | ⟨i, rfl⟩
      · exact .inl hstill
      · obtain ⟨hbusy, -⟩ := (s.stepEnabled_issue i).1 henabled
        exact .inr ⟨hbusy, State.accept_busy _, .inr ⟨i, rest, hscript, decodeFields_parts i⟩⟩
    · rcases clockEdge_of_waits (s := s.drawTurn) hwaits hedge with
        ⟨hstill, -⟩ | ⟨hbusy, hbusy', -, hlatched⟩
      · exact .inl hstill
      · exact .inr ⟨hbusy, hbusy', .inl hlatched⟩
  · rw [step_of_not_hostMoves hmoves] at hstep
    obtain ⟨-, hscript⟩ := clockEdge_faults hstep
    refine ⟨hscript, (clockEdge_of_waits (s := s.drawTurn) hwaits hstep).imp_right ?_⟩
    rintro ⟨-, hbusy, hwaits', hlatched⟩
    exact ⟨hwaits', hbusy, hlatched⟩
  · exact State.hostMoves_of_not_enabled hscript (by simp [State.stepEnabled, hwaits])

end Sys2Proof.Machine
end
